-- ==== Sys2Proof/Word.lean ====
section
/-! DEFINITION. The widths of the block's data (spec/00_scope.md R7, 10_state.md R10). -/

namespace Sys2Proof

/-- One BUS byte, ROM byte, request byte, raw byte or character code (R40, R43). -/
abbrev Byte := BitVec 8

/-- A 16-bit operand: a coordinate, a row, a length or a pre-packed 5-6-5 pixel (R10). -/
abbrev Half := BitVec 16

/-- A Color value: 8 unused bits, then red, green and blue, 8 bits each (R36). -/
abbrev Colour := BitVec 32

/-- The contents of a text colour register: red, green, blue (R18, R19). -/
abbrev Rgb := BitVec 24

end Sys2Proof
end

