-- ==== Sys2Proof/Config.lean ====
section
/-! DEFINITION. What an implementation fixes: the fixed parameters with the values the spec gives
(spec/00_scope.md R5) and the open parameters, which have no value in any source (R6). The open
parameters are one record of plain data; the record a machine is built with is the opaque
`Config.params`, so no proof can use a value of it. The bytes the environment answers to BUS reads
(20_memory.md R45) are the opaque `Config.busAnswer`. -/

namespace Sys2Proof

/-- `PANEL_W`, R5. -/
def panelW : Nat := 176

/-- `PANEL_H`, R5. -/
def panelH : Nat := 208

/-- The length of a font table's header in bytes, R5, R32. -/
def fontHeader : Nat := 3

/-- The font index bias, R5: glyph slot N belongs to character code N + 0x1F. -/
def fontBias : Nat := 0x1F

/-- The three colour depths (R5, R15). -/
inductive ColorMode where
  | c12
  | c16
  | c18
deriving DecidableEq, Repr, Inhabited

/-- The four orientations (R5, R16), in the order 30_encoding.md R62 numbers them. -/
inductive Orientation where
  | landscape
  | landscapeReversed
  | portrait
  | portraitReversed
deriving DecidableEq, Repr, Inhabited

/-- The 23 wire commands of 30_encoding.md R70, by parameter name. -/
inductive Cmd where
  | slpin
  | slpout
  | ptlon
  | noron
  | invoff
  | invon
  | gamset
  | dispoff
  | dispon
  | caset
  | paset
  | ramwr
  | rgbset
  | ramrd
  | ptlar
  | vscrdef
  | teoff
  | teon
  | madctl
  | vscrsadd
  | idmoff
  | idmon
  | colmod
deriving DecidableEq, Repr, Inhabited

/-- The two lookup tables of 20_memory.md R31. -/
inductive LutTable where
  | lut12
  | lut16
deriving DecidableEq, Repr, Inhabited

/-- The four busy-waits, by parameter name (R6, R221). -/
inductive Duration where
  | resetHold
  | resetSettle
  | slpout
  | initSettle
deriving DecidableEq, Repr, Inhabited

/-- The open command bytes `CMD_*` (R6, D6). -/
structure CmdBytes where
  slpin : Byte
  slpout : Byte
  ptlon : Byte
  noron : Byte
  invoff : Byte
  invon : Byte
  gamset : Byte
  dispoff : Byte
  dispon : Byte
  caset : Byte
  paset : Byte
  ramwr : Byte
  rgbset : Byte
  ramrd : Byte
  ptlar : Byte
  vscrdef : Byte
  teoff : Byte
  teon : Byte
  madctl : Byte
  vscrsadd : Byte
  idmoff : Byte
  idmon : Byte
  colmod : Byte
deriving DecidableEq, Repr, Inhabited

/-- The open bytes `PIXFMT_VAL[m]` (R6, D7). -/
structure PixfmtVals where
  c12 : Byte
  c16 : Byte
  c18 : Byte
deriving DecidableEq, Repr, Inhabited

/-- The open bytes `MADCTL_VAL[o]` (R6, D7). -/
structure MadctlVals where
  landscape : Byte
  landscapeReversed : Byte
  portrait : Byte
  portraitReversed : Byte
deriving DecidableEq, Repr, Inhabited

/-- The open durations `T_*` (R6, D24). No source gives a number or a unit, and two of them may be equal
(log 13). -/
structure Durations where
  resetHold : Nat
  resetSettle : Nat
  slpout : Nat
  initSettle : Nat
deriving DecidableEq, Repr, Inhabited

/-- One font table of the font ROM with the selector that names it (20_memory.md R32): the three
header bytes, then the bytes from address 3 on. A table therefore has at least 3 bytes
(93_implementation_defined.md section 2). -/
structure FontTable where
  sel : Byte
  gw : Byte
  gh : Byte
  bpg : Byte
  bitmap : List Byte
deriving DecidableEq, Repr, Inhabited

/-- All open parameters (R6). `FONTSIZES` is the set of selectors in `fonts`, `FONT[s]` the first table
whose selector is `s`. `NGLYPH` is a function of the table (D26). `statusOk` is `STATUS_OK`, whose width no
source gives (D25, log 13). -/
structure Params where
  cmd : CmdBytes
  pixfmt : PixfmtVals
  madctl : MadctlVals
  lut12 : Vector Byte 128
  lut16 : Vector Byte 128
  fonts : List FontTable
  delays : Durations
  statusOk : Nat
deriving DecidableEq, Repr, Inhabited

/-- The parameters of the machine at reset: no source gives a value, so there is none here (R6,
log 7). -/
opaque Config.params : Params

/-- The answer of the environment to the n-th BUS read since reset, where the run supplies none of its
own: a free value (R45, D27, log 8). -/
opaque Config.busAnswer : Nat → Byte

end Sys2Proof
end

