-- ==== Sys2Proof/Syntax.lean ====
section
/-! DEFINITION. The instructions: one constructor per row of spec/opcode_table.json. The first 35 are
the host operations of 30_encoding.md R61, with the operand latches of 10_state.md R10 as arguments.
The last 26 are the table's rows of kind "wire", the formats the block produces on the BUS port
(R64 to R66, R70): no request frame spells one of them (log 11). -/

namespace Sys2Proof

/-- One operation of the block. -/
inductive Instr where
  /-- `INIT`: 44_mode_power.md R200. -/
  | init (tAddr tData : Byte)
  /-- `SET_COLOR_MODE`: 40_color_codec.md R100. -/
  | setColorMode (mode : Byte)
  /-- `SET_ORIENTATION`: 41_addressing.md R116. -/
  | setOrientation (orient : Byte)
  /-- `GET_WIDTH`: 41_addressing.md R119. -/
  | getWidth
  /-- `GET_HEIGHT`: 41_addressing.md R120. -/
  | getHeight
  /-- `SET_WINDOW`: 41_addressing.md R110. -/
  | setWindow (x0 y0 x1 y1 : Half)
  /-- `SET_WRITE_WINDOW`: 41_addressing.md R111. -/
  | setWriteWindow (x0 y0 x1 y1 : Half)
  /-- `SET_READ_WINDOW`: 41_addressing.md R112. -/
  | setReadWindow (x0 y0 x1 y1 : Half)
  /-- `FILL`: 42_drawing.md R130. -/
  | fill (x0 y0 x1 y1 : Half) (color : Colour)
  /-- `FILL_FROM_ARRAY`: 42_drawing.md R131. -/
  | fillFromArray (x0 y0 x1 y1 : Half)
  /-- `FILL_FROM_BUFFER`: 42_drawing.md R132. -/
  | fillFromBuffer (x0 y0 x1 y1 : Half)
  /-- `SET_PIXEL`: 42_drawing.md R133. -/
  | setPixel (x y : Half) (color : Colour)
  /-- `SET_PIXEL16`: 42_drawing.md R134. -/
  | setPixel16 (x y : Half) (rgb565 : Half)
  /-- `READ_MEMORY`: 42_drawing.md R135. -/
  | readMemory (x0 y0 x1 y1 : Half)
  /-- `SET_FONT`: 43_text.md R150. -/
  | setFont (fsize : Byte)
  /-- `SET_TEXT_COLORS`: 43_text.md R151. -/
  | setTextColors (fg bg : Colour)
  /-- `PUT_CHAR`: 43_text.md R155. -/
  | putChar (c : Byte) (x y : Half)
  /-- `PUT_STRING`: 43_text.md R160. -/
  | putString (x y len : Half)
  /-- `PUT_STRING_CLEAR_TO_EOL`: 43_text.md R161. -/
  | putStringClearToEol (x y len : Half)
  /-- `PUT_STRING_CENTERED`: 43_text.md R162. -/
  | putStringCentered (y len : Half)
  /-- `SLEEP_IN`: 44_mode_power.md R180. -/
  | sleepIn
  /-- `SLEEP_OUT`: 44_mode_power.md R181. -/
  | sleepOut
  /-- `DISPLAY_ON`: 44_mode_power.md R182. -/
  | displayOn
  /-- `DISPLAY_OFF`: 44_mode_power.md R183. -/
  | displayOff
  /-- `IDLE_ON`: 44_mode_power.md R184. -/
  | idleOn
  /-- `IDLE_OFF`: 44_mode_power.md R185. -/
  | idleOff
  /-- `INVERSION_ON`: 44_mode_power.md R186. -/
  | inversionOn
  /-- `INVERSION_OFF`: 44_mode_power.md R187. -/
  | inversionOff
  /-- `NORMAL_MODE`: 44_mode_power.md R188. -/
  | normalMode
  /-- `PARTIAL_MODE`: 44_mode_power.md R189. -/
  | partialMode (ya yb : Half)
  /-- `GAMMA_SET`: 44_mode_power.md R190. -/
  | gammaSet (value : Byte)
  /-- `TE_ON`: 44_mode_power.md R191. -/
  | teOn (value : Byte)
  /-- `TE_OFF`: 44_mode_power.md R192. -/
  | teOff
  /-- `SCROLL_AREA`: 44_mode_power.md R193. -/
  | scrollArea (ya yb : Half)
  /-- `SCROLL_START`: 44_mode_power.md R194. -/
  | scrollStart (ya : Half)
  /-- `WIRE_PIX12`: 40_color_codec.md R91. -/
  | wirePix12 (p0 p1 : Colour)
  /-- `WIRE_PIX16`: 40_color_codec.md R92. -/
  | wirePix16 (p : Colour)
  /-- `WIRE_PIX18`: 40_color_codec.md R93. -/
  | wirePix18 (p : Colour)
  /-- `WIRE_CMD_SLPIN`: 44_mode_power.md R180. -/
  | wireCmdSlpin
  /-- `WIRE_CMD_SLPOUT`: 44_mode_power.md R181. -/
  | wireCmdSlpout
  /-- `WIRE_CMD_DISPON`: 44_mode_power.md R182. -/
  | wireCmdDispon
  /-- `WIRE_CMD_DISPOFF`: 44_mode_power.md R183. -/
  | wireCmdDispoff
  /-- `WIRE_CMD_NORON`: 44_mode_power.md R188. -/
  | wireCmdNoron
  /-- `WIRE_CMD_IDMON`: 44_mode_power.md R184. -/
  | wireCmdIdmon
  /-- `WIRE_CMD_IDMOFF`: 44_mode_power.md R185. -/
  | wireCmdIdmoff
  /-- `WIRE_CMD_INVON`: 44_mode_power.md R186. -/
  | wireCmdInvon
  /-- `WIRE_CMD_INVOFF`: 44_mode_power.md R187. -/
  | wireCmdInvoff
  /-- `WIRE_CMD_CASET`: 41_addressing.md R110. -/
  | wireCmdCaset (x0 x1 : Half)
  /-- `WIRE_CMD_PASET`: 41_addressing.md R110. -/
  | wireCmdPaset (y0 y1 : Half)
  /-- `WIRE_CMD_RAMWR`: 41_addressing.md R111. -/
  | wireCmdRamwr
  /-- `WIRE_CMD_RAMRD`: 41_addressing.md R112. -/
  | wireCmdRamrd
  /-- `WIRE_CMD_MADCTL`: 41_addressing.md R116. -/
  | wireCmdMadctl (o : Orientation)
  /-- `WIRE_CMD_COLMOD`: 40_color_codec.md R100. -/
  | wireCmdColmod (m : ColorMode)
  /-- `WIRE_CMD_RGBSET`: 40_color_codec.md R100. -/
  | wireCmdRgbset (t : LutTable)
  /-- `WIRE_CMD_PTLON`: 44_mode_power.md R189. -/
  | wireCmdPtlon
  /-- `WIRE_CMD_PTLAR`: 44_mode_power.md R189. -/
  | wireCmdPtlar (y0 y1 : Half)
  /-- `WIRE_CMD_VSCRDEF`: 44_mode_power.md R193. -/
  | wireCmdVscrdef (top height bottom : Half)
  /-- `WIRE_CMD_VSCRSADD`: 44_mode_power.md R194. -/
  | wireCmdVscrsadd (position : Half)
  /-- `WIRE_CMD_GAMSET`: 44_mode_power.md R190. -/
  | wireCmdGamset (value : Byte)
  /-- `WIRE_CMD_TEON`: 44_mode_power.md R191. -/
  | wireCmdTeon (mode : Byte)
  /-- `WIRE_CMD_TEOFF`: 44_mode_power.md R192. -/
  | wireCmdTeoff
deriving DecidableEq, Repr

end Sys2Proof
end

