-- ==== Sys2Proof/WellFormed.lean ====
section
/-! DEFINITION. Which terms of `Instr` are requests. An operand of a request may have any value of its
width: a value the spec calls invalid still decodes, and is refused by class when the operation runs
(30_encoding.md R62, R74, and the frames `01 0D` and `02 04` of 95_test_vectors.md section 2.7). The
one thing a term can lack is a request frame: the wire rows have none (log 11). -/

namespace Sys2Proof

/-- Is the term a host operation, with a selector in 30_encoding.md R61? -/
def Instr.isRequest : Instr → Bool
  | .init _ _ => true
  | .setColorMode _ => true
  | .setOrientation _ => true
  | .getWidth => true
  | .getHeight => true
  | .setWindow _ _ _ _ => true
  | .setWriteWindow _ _ _ _ => true
  | .setReadWindow _ _ _ _ => true
  | .fill _ _ _ _ _ => true
  | .fillFromArray _ _ _ _ => true
  | .fillFromBuffer _ _ _ _ => true
  | .setPixel _ _ _ => true
  | .setPixel16 _ _ _ => true
  | .readMemory _ _ _ _ => true
  | .setFont _ => true
  | .setTextColors _ _ => true
  | .putChar _ _ _ => true
  | .putString _ _ _ => true
  | .putStringClearToEol _ _ _ => true
  | .putStringCentered _ _ => true
  | .sleepIn => true
  | .sleepOut => true
  | .displayOn => true
  | .displayOff => true
  | .idleOn => true
  | .idleOff => true
  | .inversionOn => true
  | .inversionOff => true
  | .normalMode => true
  | .partialMode _ _ => true
  | .gammaSet _ => true
  | .teOn _ => true
  | .teOff => true
  | .scrollArea _ _ => true
  | .scrollStart _ => true
  | .wirePix12 _ _ => false
  | .wirePix16 _ => false
  | .wirePix18 _ => false
  | .wireCmdSlpin => false
  | .wireCmdSlpout => false
  | .wireCmdDispon => false
  | .wireCmdDispoff => false
  | .wireCmdNoron => false
  | .wireCmdIdmon => false
  | .wireCmdIdmoff => false
  | .wireCmdInvon => false
  | .wireCmdInvoff => false
  | .wireCmdCaset _ _ => false
  | .wireCmdPaset _ _ => false
  | .wireCmdRamwr => false
  | .wireCmdRamrd => false
  | .wireCmdMadctl _ => false
  | .wireCmdColmod _ => false
  | .wireCmdRgbset _ => false
  | .wireCmdPtlon => false
  | .wireCmdPtlar _ _ => false
  | .wireCmdVscrdef _ _ _ => false
  | .wireCmdVscrsadd _ => false
  | .wireCmdGamset _ => false
  | .wireCmdTeon _ => false
  | .wireCmdTeoff => false

/-- A well-formed instruction is a request. -/
abbrev Instr.WellFormed (i : Instr) : Prop := i.isRequest = true

end Sys2Proof
end

