-- ==== Sys2Proof/Decode.lean ====
section
/-! DEFINITION. The request frames of spec/30_encoding.md R60 to R62: a total decoder on any bytes,
which rejects by name, and after it the encoder. Every multi-byte field is sent most significant byte
first (R60). -/

namespace Sys2Proof

/-- `hi8(v) = v[15:8]` (R7). -/
def hi8 (v : Half) : Byte := v.extractLsb' 8 8

/-- `lo8(v) = v[7:0]` (R7). -/
def lo8 (v : Half) : Byte := v.extractLsb' 0 8

/-- Two bytes of a field, most significant first (R60). -/
def be16 (h l : Byte) : Half := h ++ l

/-- Four bytes of a field, most significant first (R60). -/
def be32 (a b c d : Byte) : Colour := a ++ b ++ c ++ d

/-- The bytes of a 16-bit field in frame order (R60). -/
def bytes16 (v : Half) : List Byte := [hi8 v, lo8 v]

/-- The bytes of a 32-bit field in frame order (R60). -/
def bytes32 (v : Colour) : List Byte :=
  [v.extractLsb' 24 8, v.extractLsb' 16 8, v.extractLsb' 8 8, v.extractLsb' 0 8]

/-- Why a frame spells no operation. -/
inductive FrameError where
  /-- The frame has no selector byte. -/
  | empty
  /-- The selector is not in R61's table (R73). -/
  | unassigned (op : Byte)
  /-- The frame is not as long as the selector's format in R60 (log 10). -/
  | wrongLength (op : Byte) (expected given : Nat)
deriving DecidableEq, Repr

/-- The answer of a decoder of one frame. -/
abbrev Decoded := Except FrameError Instr

/-- Format `N`: no field. -/
def frameN (op : Byte) (i : Instr) : List Byte → Decoded
  | [] => .ok i
  | f => .error (.wrongLength op 1 (f.length + 1))

/-- Format `B`: one byte. -/
def frameB (op : Byte) (mk : Byte → Instr) : List Byte → Decoded
  | [a] => .ok (mk a)
  | f => .error (.wrongLength op 2 (f.length + 1))

/-- Format `I`: two bytes. -/
def frameI (op : Byte) (mk : Byte → Byte → Instr) : List Byte → Decoded
  | [a, b] => .ok (mk a b)
  | f => .error (.wrongLength op 3 (f.length + 1))

/-- Format `W`: `x0`, `y0`, `x1`, `y1`, 16 bits each. -/
def frameW (op : Byte) (mk : Half → Half → Half → Half → Instr) : List Byte → Decoded
  | [a, b, c, d, e, f, g, h] => .ok (mk (be16 a b) (be16 c d) (be16 e f) (be16 g h))
  | f => .error (.wrongLength op 9 (f.length + 1))

/-- Format `WC`: a window and a 32-bit colour. -/
def frameWC (op : Byte) (mk : Half → Half → Half → Half → Colour → Instr) : List Byte → Decoded
  | [a, b, c, d, e, f, g, h, i, j, k, l] =>
    .ok (mk (be16 a b) (be16 c d) (be16 e f) (be16 g h) (be32 i j k l))
  | f => .error (.wrongLength op 13 (f.length + 1))

/-- Format `PC`: `x`, `y` and a 32-bit colour. -/
def framePC (op : Byte) (mk : Half → Half → Colour → Instr) : List Byte → Decoded
  | [a, b, c, d, e, f, g, h] => .ok (mk (be16 a b) (be16 c d) (be32 e f g h))
  | f => .error (.wrongLength op 9 (f.length + 1))

/-- Formats `PH` and `S`: three 16-bit fields. -/
def framePH (op : Byte) (mk : Half → Half → Half → Instr) : List Byte → Decoded
  | [a, b, c, d, e, f] => .ok (mk (be16 a b) (be16 c d) (be16 e f))
  | f => .error (.wrongLength op 7 (f.length + 1))

/-- Format `S` has the fields of `PH` under other names: `x`, `y`, `len`. -/
def frameS (op : Byte) (mk : Half → Half → Half → Instr) (f : List Byte) : Decoded :=
  framePH op mk f

/-- Format `CC`: two 32-bit colours. -/
def frameCC (op : Byte) (mk : Colour → Colour → Instr) : List Byte → Decoded
  | [a, b, c, d, e, f, g, h] => .ok (mk (be32 a b c d) (be32 e f g h))
  | f => .error (.wrongLength op 9 (f.length + 1))

/-- Format `CH`: a character code, then `x`, `y`. -/
def frameCH (op : Byte) (mk : Byte → Half → Half → Instr) : List Byte → Decoded
  | [a, b, c, d, e] => .ok (mk a (be16 b c) (be16 d e))
  | f => .error (.wrongLength op 6 (f.length + 1))

/-- Format `Y1`: one 16-bit field. -/
def frameY1 (op : Byte) (mk : Half → Instr) : List Byte → Decoded
  | [a, b] => .ok (mk (be16 a b))
  | f => .error (.wrongLength op 3 (f.length + 1))

/-- Format `Y2`: two 16-bit fields. -/
def frameY2 (op : Byte) (mk : Half → Half → Instr) : List Byte → Decoded
  | [a, b, c, d] => .ok (mk (be16 a b) (be16 c d))
  | f => .error (.wrongLength op 5 (f.length + 1))

/-- Format `SC`: `y`, `len`, 16 bits each, as `Y2`. -/
def frameSC (op : Byte) (mk : Half → Half → Instr) (f : List Byte) : Decoded :=
  frameY2 op mk f

/-- The operation a request frame spells: R61's selector table, the fields in R60's order. -/
def decodeFrame : List Byte → Decoded
  | [] => .error .empty
  | op :: rest =>
    match op.toNat with
    | 0x00 => frameI op .init rest
    | 0x01 => frameB op .setColorMode rest
    | 0x02 => frameB op .setOrientation rest
    | 0x03 => frameN op .getWidth rest
    | 0x04 => frameN op .getHeight rest
    | 0x10 => frameW op .setWindow rest
    | 0x11 => frameW op .setWriteWindow rest
    | 0x12 => frameW op .setReadWindow rest
    | 0x20 => frameWC op .fill rest
    | 0x21 => frameW op .fillFromArray rest
    | 0x22 => frameW op .fillFromBuffer rest
    | 0x23 => framePC op .setPixel rest
    | 0x24 => framePH op .setPixel16 rest
    | 0x25 => frameW op .readMemory rest
    | 0x30 => frameB op .setFont rest
    | 0x31 => frameCC op .setTextColors rest
    | 0x32 => frameCH op .putChar rest
    | 0x33 => frameS op .putString rest
    | 0x34 => frameS op .putStringClearToEol rest
    | 0x35 => frameSC op .putStringCentered rest
    | 0x40 => frameN op .sleepIn rest
    | 0x41 => frameN op .sleepOut rest
    | 0x42 => frameN op .displayOn rest
    | 0x43 => frameN op .displayOff rest
    | 0x44 => frameN op .idleOn rest
    | 0x45 => frameN op .idleOff rest
    | 0x46 => frameN op .inversionOn rest
    | 0x47 => frameN op .inversionOff rest
    | 0x48 => frameN op .normalMode rest
    | 0x49 => frameY2 op .partialMode rest
    | 0x4A => frameB op .gammaSet rest
    | 0x4B => frameB op .teOn rest
    | 0x4C => frameN op .teOff rest
    | 0x4D => frameY2 op .scrollArea rest
    | 0x4E => frameY1 op .scrollStart rest
    | _ => .error (.unassigned op)

/-- The frame with zero bytes added where it is shorter than its selector's format. -/
def padFrame (bs : List Byte) : List Byte :=
  match decodeFrame bs with
  | .error (.wrongLength _ expected given) => bs ++ List.replicate (expected - given) 0#8
  | _ => bs

/-- The last `n` bytes of a number, most significant first. -/
def bigEndianBytes : Nat → Nat → List Byte
  | 0, _ => []
  | n + 1, w => BitVec.ofNat 8 (w / 256 ^ n) :: bigEndianBytes n w

/-- The frame a row of spec/opcode_table.json spells: the table reads the whole frame as one number of
`nbits` bits with the selector byte in the most significant 8 (30_encoding.md, opening paragraph;
log 12), and operand bytes it gives no bits are zero. -/
def tableFrame (nbits w : Nat) : List Byte :=
  padFrame (bigEndianBytes ((nbits + 7) / 8) w)

/-- The instruction the decoder reads from a table word. -/
def decodeTableWord (nbits w : Nat) : Option Instr :=
  match decodeFrame (tableFrame nbits w) with
  | .ok i => some i
  | .error _ => none

/-- The request frame of a well-formed instruction (R60, R61). A wire row has none: the empty list. -/
def encode : Instr → List Byte
  | .init tAddr tData => [0x00#8, tAddr, tData]
  | .setColorMode mode => [0x01#8, mode]
  | .setOrientation orient => [0x02#8, orient]
  | .getWidth => [0x03#8]
  | .getHeight => [0x04#8]
  | .setWindow x0 y0 x1 y1 => [0x10#8] ++ bytes16 x0 ++ bytes16 y0 ++ bytes16 x1 ++ bytes16 y1
  | .setWriteWindow x0 y0 x1 y1 => [0x11#8] ++ bytes16 x0 ++ bytes16 y0 ++ bytes16 x1 ++ bytes16 y1
  | .setReadWindow x0 y0 x1 y1 => [0x12#8] ++ bytes16 x0 ++ bytes16 y0 ++ bytes16 x1 ++ bytes16 y1
  | .fill x0 y0 x1 y1 color =>
    [0x20#8] ++ bytes16 x0 ++ bytes16 y0 ++ bytes16 x1 ++ bytes16 y1 ++ bytes32 color
  | .fillFromArray x0 y0 x1 y1 => [0x21#8] ++ bytes16 x0 ++ bytes16 y0 ++ bytes16 x1 ++ bytes16 y1
  | .fillFromBuffer x0 y0 x1 y1 => [0x22#8] ++ bytes16 x0 ++ bytes16 y0 ++ bytes16 x1 ++ bytes16 y1
  | .setPixel x y color => [0x23#8] ++ bytes16 x ++ bytes16 y ++ bytes32 color
  | .setPixel16 x y rgb565 => [0x24#8] ++ bytes16 x ++ bytes16 y ++ bytes16 rgb565
  | .readMemory x0 y0 x1 y1 => [0x25#8] ++ bytes16 x0 ++ bytes16 y0 ++ bytes16 x1 ++ bytes16 y1
  | .setFont fsize => [0x30#8, fsize]
  | .setTextColors fg bg => [0x31#8] ++ bytes32 fg ++ bytes32 bg
  | .putChar c x y => [0x32#8] ++ [c] ++ bytes16 x ++ bytes16 y
  | .putString x y len => [0x33#8] ++ bytes16 x ++ bytes16 y ++ bytes16 len
  | .putStringClearToEol x y len => [0x34#8] ++ bytes16 x ++ bytes16 y ++ bytes16 len
  | .putStringCentered y len => [0x35#8] ++ bytes16 y ++ bytes16 len
  | .sleepIn => [0x40#8]
  | .sleepOut => [0x41#8]
  | .displayOn => [0x42#8]
  | .displayOff => [0x43#8]
  | .idleOn => [0x44#8]
  | .idleOff => [0x45#8]
  | .inversionOn => [0x46#8]
  | .inversionOff => [0x47#8]
  | .normalMode => [0x48#8]
  | .partialMode ya yb => [0x49#8] ++ bytes16 ya ++ bytes16 yb
  | .gammaSet value => [0x4A#8, value]
  | .teOn value => [0x4B#8, value]
  | .teOff => [0x4C#8]
  | .scrollArea ya yb => [0x4D#8] ++ bytes16 ya ++ bytes16 yb
  | .scrollStart ya => [0x4E#8] ++ bytes16 ya
  | .wirePix12 _ _ => []
  | .wirePix16 _ => []
  | .wirePix18 _ => []
  | .wireCmdSlpin => []
  | .wireCmdSlpout => []
  | .wireCmdDispon => []
  | .wireCmdDispoff => []
  | .wireCmdNoron => []
  | .wireCmdIdmon => []
  | .wireCmdIdmoff => []
  | .wireCmdInvon => []
  | .wireCmdInvoff => []
  | .wireCmdCaset _ _ => []
  | .wireCmdPaset _ _ => []
  | .wireCmdRamwr => []
  | .wireCmdRamrd => []
  | .wireCmdMadctl _ => []
  | .wireCmdColmod _ => []
  | .wireCmdRgbset _ => []
  | .wireCmdPtlon => []
  | .wireCmdPtlar _ _ => []
  | .wireCmdVscrdef _ _ _ => []
  | .wireCmdVscrsadd _ => []
  | .wireCmdGamset _ => []
  | .wireCmdTeon _ => []
  | .wireCmdTeoff => []

end Sys2Proof
end

