-- ==== Sys2Proof/Machine/State.lean ====
section
/-! DEFINITION. The machine's state as plain data: the five configuration registers (10_state.md R14),
the trace, the OUT stream, the HOST responses and the refusal mark (R25, 70_reset_and_hazards.md R260),
the request side and the answers of the environment as inputs, and the read-only parameters. The spec
gives the block no program counter, flag, memory of its own, mode or counter (R12, R13, R22, R25). -/

namespace Sys2Proof.Machine

/-- A configuration register. The spec gives each register a reset state and no reset value: it is
`unwritten` until its setter completes (R20, R240), and reading it then is violation V12 (log 3). -/
inductive ConfigReg (α : Type) where
  | unwritten
  | written (v : α)
deriving DecidableEq, Repr

/-- The names of the configuration registers (R14). -/
inductive RegName where
  | cmode
  | orient
  | fsize
  | fg
  | bg
deriving DecidableEq, Repr

/-- The two levels of the RESET line (00_scope.md R2, R8). -/
inductive ResetLevel where
  | assert
  | release
deriving DecidableEq, Repr

/-- The events of the trace (00_scope.md R8). -/
inductive Event where
  /-- `CMD(b)`: write_command. -/
  | cmd (b : Byte)
  /-- `DAT(b)`: write_data. -/
  | dat (b : Byte)
  /-- `RDD(v)`: read_data answered `v`. -/
  | rdd (v : Byte)
  /-- `RDR(i, v)`: read_register of `i` answered `v`. -/
  | rdr (i v : Byte)
  /-- `RST(assert)` or `RST(release)`. -/
  | rst (l : ResetLevel)
  /-- `DLY(T)`, with the open duration `T` (R221, log 13). -/
  | dly (t : Nat)
deriving DecidableEq, Repr

/-- What the HOST response port returns beside completion (30_encoding.md R63). -/
inductive Response where
  /-- The 16-bit value of GET_WIDTH or GET_HEIGHT. -/
  | value (v : Half)
  /-- The status INIT returns, with the open value `STATUS_OK` (D25, log 13). -/
  | status (v : Nat)
deriving DecidableEq, Repr

/-- An inclusive rectangle in pixel coordinates (R9, R113). The corners are naturals: a corner the
blitter computes may exceed 16 bits before it is checked (R80). -/
structure Window where
  x0 : Nat
  y0 : Nat
  x1 : Nat
  y1 : Nat
deriving DecidableEq, Repr

/-- The precondition violation classes V1 to V13 of 60_exceptions.md R212 with the info a refusal names.
V14 is a move the host does not have (R212). -/
inductive Violation where
  /-- V1: the window is inverted. -/
  | windowOrder (w : Window)
  /-- V2: the window leaves the logical extent. -/
  | windowRange (w : Window) (width height : Nat)
  /-- V3: an odd pixel count at 12-bit depth. -/
  | oddCount12 (j : Nat)
  /-- V4: not a colour depth. -/
  | badMode (mode : Byte)
  /-- V5: not an orientation. -/
  | badOrient (orient : Byte)
  /-- V6: not a font selector. -/
  | badFont (fsize : Byte)
  /-- V7: a drawn character outside the font, with its index in the string. PUT_CHAR has no string, and the
  model records index 0 there (log 5); the index of a padding space is log 22. -/
  | charRange (c : Byte) (index : Nat)
  /-- V8: a font header the blitter cannot walk. -/
  | glyphGeometry (gw gh bpg : Byte)
  /-- V9: the IN stream is too short. -/
  | streamLength (required supplied : Nat)
  /-- V10: SET_PIXEL16 at another depth. -/
  | pixel16Mode (m : ColorMode)
  /-- V11: scroll rows beyond the panel. -/
  | scrollRange (top height : Half)
  /-- V12: a register never written since reset. -/
  | unwrittenState (r : RegName)
  /-- V13: a row operand outside the panel, with the operands in frame order. -/
  | rowRange (rows : List Half)
deriving DecidableEq, Repr

/-- The IN stream of one operation (20_memory.md R35): 32-bit colours, or 8-bit elements, which are raw
bytes or character codes as the operation says (log 9). -/
inductive InStream where
  | colours (cs : List Colour)
  | bytes (bs : List Byte)
deriving DecidableEq, Repr

/-- One request of the host: its frame and its IN stream (R35, R60). -/
structure Request where
  frame : List Byte
  input : InStream
deriving DecidableEq, Repr

/-- The state between two operations. -/
structure State where
  /-- CMODE (R15). -/
  cmode : ConfigReg ColorMode
  /-- ORIENT (R16). -/
  orient : ConfigReg Orientation
  /-- FSIZE (R17). -/
  fsize : ConfigReg Byte
  /-- FG (R18). -/
  fg : ConfigReg Rgb
  /-- BG (R19). -/
  bg : ConfigReg Rgb
  /-- The trace, oldest event first (00_scope.md R8). -/
  trace : List Event
  /-- The OUT stream (R35, log 18). -/
  out : List Byte
  /-- The HOST responses that carry data, oldest first (R63, log 17). -/
  responses : List Response
  /-- The refusal mark: every refused request's class and info, never cleared (R214, log 4). -/
  refusals : List Violation
  /-- The IN stream of the request in progress, less what was read (R35). -/
  inStream : InStream
  /-- Input: the requests the host will issue, next first (R260, log 1). -/
  requests : List Request
  /-- Input: the environment's answers to the next BUS reads (R45, log 8). -/
  answers : List Byte
  /-- The number of BUS reads answered so far: the argument of the free value `Config.busAnswer` (log 8). -/
  reads : Nat
  /-- The open parameters of the machine, with the LUT ROM and the font ROM: read-only (R6, R34, log 7). -/
  par : Params
deriving DecidableEq, Repr

/-- Why the machine stops with a fault: never. The block raises no exception, records none and takes no
trap (60_exceptions.md R210, R218), so there is no constructor. -/
inductive Fault where
deriving DecidableEq, Repr

/-- Why a step is refused. No operation that runs ends in one of these: a violated precondition is
recorded in `State.refusals` (R214). -/
inductive Refusal where
  /-- Raised by `exec` for an instruction that has no meaning in this model. Safe: the run stops. -/
  | notModelled (mnemonic : String)
  /-- Raised by `step` for a frame that spells no operation: no selector, an unassigned selector (R73) or
  a frame of another length than its format (R60, log 10). Safe: the run stops. -/
  | badFrame (e : FrameError)
deriving DecidableEq, Repr

/-- The machine right after reset (70_reset_and_hazards.md R240): every register unwritten, trace and OUT
stream empty, no request pending. The parameters are those the machine was built with, which no source
gives (R6). The inputs are empty and the read count is zero (DESIGN CHOICE, log 1, log 8). -/
def State.reset : State where
  cmode := .unwritten
  orient := .unwritten
  fsize := .unwritten
  fg := .unwritten
  bg := .unwritten
  trace := []
  out := []
  responses := []
  refusals := []
  inStream := .bytes []
  requests := []
  answers := []
  reads := 0
  par := Config.params

end Sys2Proof.Machine
end

