-- ==== Sys2Proof/Machine/Operands.lean ====
section
/-! DEFINITION. The derived operands of spec/30_encoding.md R72: channels of a colour, coordinate bytes,
window counts, the logical extent, ROM reads and glyph addresses. All pure functions. -/

namespace Sys2Proof.Machine

/-- `R(p) = p[23:16]` (R36). -/
def red (p : Colour) : Byte := p.extractLsb' 16 8

/-- `G(p) = p[15:8]` (R36). -/
def green (p : Colour) : Byte := p.extractLsb' 8 8

/-- `B(p) = p[7:0]` (R36). -/
def blue (p : Colour) : Byte := p.extractLsb' 0 8

/-- What a text colour register keeps of a colour operand: bits [23:0] (R151). -/
def dropHigh (p : Colour) : Rgb := p.extractLsb' 0 24

/-- A text colour as a Color value (R18, R36). -/
def widen (c : Rgb) : Colour := c.setWidth 32

/-- The two wire bytes of a coordinate, most significant first (R37). -/
def coordBytes (v : Nat) : List Byte := bytes16 (BitVec.ofNat 16 v)

/-- The window of four 16-bit operands. -/
def windowOf (x0 y0 x1 y1 : Half) : Window := ⟨x0.toNat, y0.toNat, x1.toNat, y1.toNat⟩

/-- The glyph window `(x, y, x+gw-1, y+gh-1)` (R72, R155). -/
def cellWindow (x y gw gh : Nat) : Window := ⟨x, y, x + gw - 1, y + gh - 1⟩

/-- `j`, the pixel count of a window (42_drawing.md R136). -/
def pixelCount (w : Window) : Nat := (w.x1 - w.x0 + 1) * (w.y1 - w.y0 + 1)

/-- `BPPx2()`: wire bytes per two pixels (40_color_codec.md R97). -/
def bppx2 : ColorMode → Nat
  | .c12 => 3
  | .c16 => 4
  | .c18 => 6

/-- `NB`, the wire bytes of a window (R136). -/
def byteCount (m : ColorMode) (w : Window) : Nat := pixelCount w * bppx2 m / 2

/-- `W()` (41_addressing.md R118). -/
def logicalW : Orientation → Nat
  | .landscape => panelH
  | .landscapeReversed => panelH
  | .portrait => panelW
  | .portraitReversed => panelW

/-- `H()` (R118). -/
def logicalH : Orientation → Nat
  | .landscape => panelW
  | .landscapeReversed => panelW
  | .portrait => panelH
  | .portraitReversed => panelH

/-- The depth a request operand names (30_encoding.md R62). -/
def modeOf (b : Byte) : Option ColorMode :=
  if b = 0x0C#8 then some .c12
  else if b = 0x10#8 then some .c16
  else if b = 0x12#8 then some .c18
  else none

/-- The orientation a request operand names (R62). -/
def orientOf (b : Byte) : Option Orientation :=
  if b = 0x00#8 then some .landscape
  else if b = 0x01#8 then some .landscapeReversed
  else if b = 0x02#8 then some .portrait
  else if b = 0x03#8 then some .portraitReversed
  else none

/-- The byte of a wire command (R70). -/
def cmdByte (p : Params) : Cmd → Byte
  | .slpin => p.cmd.slpin
  | .slpout => p.cmd.slpout
  | .ptlon => p.cmd.ptlon
  | .noron => p.cmd.noron
  | .invoff => p.cmd.invoff
  | .invon => p.cmd.invon
  | .gamset => p.cmd.gamset
  | .dispoff => p.cmd.dispoff
  | .dispon => p.cmd.dispon
  | .caset => p.cmd.caset
  | .paset => p.cmd.paset
  | .ramwr => p.cmd.ramwr
  | .rgbset => p.cmd.rgbset
  | .ramrd => p.cmd.ramrd
  | .ptlar => p.cmd.ptlar
  | .vscrdef => p.cmd.vscrdef
  | .teoff => p.cmd.teoff
  | .teon => p.cmd.teon
  | .madctl => p.cmd.madctl
  | .vscrsadd => p.cmd.vscrsadd
  | .idmoff => p.cmd.idmoff
  | .idmon => p.cmd.idmon
  | .colmod => p.cmd.colmod

/-- `PIXFMT_VAL[m]` (R6). -/
def pixfmtVal (p : Params) : ColorMode → Byte
  | .c12 => p.pixfmt.c12
  | .c16 => p.pixfmt.c16
  | .c18 => p.pixfmt.c18

/-- The open duration of a busy-wait (R6, D24). -/
def durationVal (p : Params) : Duration → Nat
  | .resetHold => p.delays.resetHold
  | .resetSettle => p.delays.resetSettle
  | .slpout => p.delays.slpout
  | .initSettle => p.delays.initSettle

/-- `MADCTL_VAL[o]` (R6). -/
def madctlVal (p : Params) : Orientation → Byte
  | .landscape => p.madctl.landscape
  | .landscapeReversed => p.madctl.landscapeReversed
  | .portrait => p.madctl.portrait
  | .portraitReversed => p.madctl.portraitReversed

/-- `MemRead(LUT12, i, 1)` or `MemRead(LUT16, i, 1)` (20_memory.md R31). -/
def memReadLut (p : Params) (t : LutTable) (i : Fin 128) : Byte :=
  match t with
  | .lut12 => p.lut12[i]
  | .lut16 => p.lut16[i]

/-- A whole lookup table, index 0 first (R31, 40_color_codec.md R101). -/
def lutBytes (p : Params) (t : LutTable) : List Byte := List.ofFn (memReadLut p t)

/-- The table that goes with a depth; "18-bit needs no such table" (R100, R101). -/
def lutFor : ColorMode → Option LutTable
  | .c12 => some .lut12
  | .c16 => some .lut16
  | .c18 => none

/-- `FONT[s]` where `s` is in `FONTSIZES` (R6). -/
def fontOf (p : Params) (s : Byte) : Option FontTable := p.fonts.find? (fun t => t.sel == s)

/-- The bytes of a font table from byte address 0 (20_memory.md R32). -/
def fontBytes (t : FontTable) : List Byte := t.gw :: t.gh :: t.bpg :: t.bitmap

/-- `MemRead(T, addr, 1)` (R32). Every address a glyph that passed V7 and V8 reads lies in the table
(`Sys2Proof.Laws.rowAddr_in_table`), so the zero outside it reaches no operation (log 15). -/
def memReadFont (t : FontTable) (addr : Nat) : Byte := (fontBytes t).getD addr 0#8

/-- `NGLYPH[s]`: whole glyph slots after the header (R6, D26). -/
def glyphCount (t : FontTable) : Nat := ((fontBytes t).length - fontHeader) / t.bpg.toNat

/-- `N = c - 0x1F` (43_text.md R154). -/
def glyphIndex (c : Byte) : Nat := c.toNat - fontBias

/-- `rowaddr(c, r) = 3 + N*bpg + r` (R154). -/
def rowAddr (t : FontTable) (c : Byte) (r : Nat) : Nat :=
  fontHeader + glyphIndex c * t.bpg.toNat + r

/-- The mask of pixel `k` of a row, `0x80 >> k` (R72). -/
def glyphMask (k : Nat) : Byte := 0x80#8 >>> k

/-- `sel(r, k)`: foreground where the bit is set, background where it is clear (R155, R156). -/
def glyphPixel (t : FontTable) (fg bg : Rgb) (c : Byte) (r k : Nat) : Colour :=
  if memReadFont t (rowAddr t c r) &&& glyphMask k ≠ 0#8 then widen fg else widen bg

/-- The text origin of PUT_STRING_CENTERED, with the text width `len * gw` (43_text.md R162). -/
def centredX (width textWidth : Nat) : Nat :=
  if textWidth > width then 0 else (width - textWidth) / 2

/-- `bottom_fixed_area` (44_mode_power.md R193); evaluated only where V11 does not hold. -/
def bottomFixed (top height : Nat) : Nat := panelH - top - height

end Sys2Proof.Machine
end

