-- ==== Sys2Proof/Machine/Ops.lean ====
section
/-! DEFINITION. The named operations on the state: the BUS, RESET, DELAY, HOST and stream primitives of
spec/00_scope.md R8, the window sequences of 41_addressing.md R110 to R112, and the refusal of a request
whose precondition does not hold (60_exceptions.md R214), which stands where other machines take an
exception: the block has no exception entry and no return from one (R218). -/

namespace Sys2Proof.Machine

/-- What `exec` and `step` answer. -/
abbrev Result := Host.Outcome State Fault Refusal

/-- Events appended to the trace, in order (R8). -/
def State.emit (s : State) (es : List Event) : State := { s with trace := s.trace ++ es }

/-- `BusCmd(c)` (R8). -/
def State.busCmd (s : State) (c : Cmd) : State := s.emit [.cmd (cmdByte s.par c)]

/-- `send(bs)`: `BusData(b)` for each byte, in order (42_drawing.md). -/
def State.send (s : State) (bs : List Byte) : State := s.emit (bs.map .dat)

/-- `BusData(b)` (R8). -/
def State.busData (s : State) (b : Byte) : State := s.send [b]

/-- A wire command: the command byte, then its parameter bytes (30_encoding.md R68). -/
def State.wireCmd (s : State) (c : Cmd) (ps : List Byte) : State := (s.busCmd c).send ps

/-- `ResetLine(level)` (R8). -/
def State.resetLine (s : State) (l : ResetLevel) : State := s.emit [.rst l]

/-- `Delay(T)` (R8): the event only, the model has no time. -/
def State.delay (s : State) (t : Duration) : State := s.emit [.dly (durationVal s.par t)]

/-- The byte the environment answers to the next BUS read: the next of the answers the run supplies, or
the free value where there is none (R45, log 8). -/
def State.nextAnswer (s : State) : Byte :=
  match s.answers with
  | b :: _ => b
  | [] => Config.busAnswer s.reads

/-- The environment has answered one BUS read. -/
def State.takeAnswer (s : State) : State :=
  { s with answers := s.answers.tail, reads := s.reads + 1 }

/-- The state after `BusReadData()`, whose value is `s.nextAnswer` (R8, R41). -/
def State.busReadData (s : State) : State := s.takeAnswer.emit [.rdd s.nextAnswer]

/-- The state after `BusReadReg(i)`, whose value is `s.nextAnswer`. Part of the BUS contract; no
operation calls it (20_memory.md R42). -/
def State.busReadReg (s : State) (i : Byte) : State := s.takeAnswer.emit [.rdr i s.nextAnswer]

/-- `OutPut(b)` (R8). -/
def State.outPut (s : State) (b : Byte) : State := { s with out := s.out ++ [b] }

/-- `OutPut(BusReadData())`, `n` times (42_drawing.md R135). -/
def State.readToOut : Nat → State → State
  | 0, s => s
  | n + 1, s => State.readToOut n (s.busReadData.outPut s.nextAnswer)

/-- `return v` on the HOST response port (R8, 30_encoding.md R63). -/
def State.respond (s : State) (r : Response) : State := { s with responses := s.responses ++ [r] }

/-- `CMODE <- m`. -/
def State.writeCmode (s : State) (m : ColorMode) : State := { s with cmode := .written m }

/-- `ORIENT <- o`. -/
def State.writeOrient (s : State) (o : Orientation) : State := { s with orient := .written o }

/-- `FSIZE <- f`. -/
def State.writeFsize (s : State) (f : Byte) : State := { s with fsize := .written f }

/-- `FG <- fg; BG <- bg`: both together (43_text.md R151, 10_state.md R20). -/
def State.writeTextColors (s : State) (fg bg : Rgb) : State :=
  { s with fg := .written fg, bg := .written bg }

/-- The 32-bit colours the IN stream holds (20_memory.md R35). A stream of bytes holds none (log 9). -/
def streamColours : InStream → List Colour
  | .colours cs => cs
  | .bytes _ => []

/-- The 8-bit elements the IN stream holds (R35). A stream of colours holds none (log 9). -/
def streamBytes : InStream → List Byte
  | .colours _ => []
  | .bytes bs => bs

/-- `n` colours read from the IN stream: the rest is left unread (R35, D20). -/
def State.dropColours (s : State) (n : Nat) : State :=
  { s with inStream := .colours ((streamColours s.inStream).drop n) }

/-- `n` bytes read from the IN stream: the rest is left unread (R35, D20). -/
def State.dropBytes (s : State) (n : Nat) : State :=
  { s with inStream := .bytes ((streamBytes s.inStream).drop n) }

/-- SET_WINDOW's frames (41_addressing.md R110): columns, then pages, each start before end. The three
window operations and every pixel transfer share it. -/
def State.setWindow (s : State) (w : Window) : State :=
  (s.wireCmd .caset (coordBytes w.x0 ++ coordBytes w.x1)).wireCmd .paset
    (coordBytes w.y0 ++ coordBytes w.y1)

/-- SET_WRITE_WINDOW's frames (R111). -/
def State.setWriteWindow (s : State) (w : Window) : State := (s.setWindow w).busCmd .ramwr

/-- SET_READ_WINDOW's frames (R112). -/
def State.setReadWindow (s : State) (w : Window) : State := (s.setWindow w).busCmd .ramrd

/-- A refused request (60_exceptions.md R214, R218): the class and info are recorded for good, and
nothing else of the state changes (log 4). -/
def State.refuse (s : State) (v : Violation) : State := { s with refusals := s.refusals ++ [v] }

/-- An operation: all its preconditions were decided before its first event, so it either runs whole or is
refused whole (R214). Either way the block is then idle and the host may issue its next request. -/
def State.perform (s : State) (r : Except Violation State) : Result :=
  .next (match r with
    | .ok t => t
    | .error v => s.refuse v)

end Sys2Proof.Machine
end

