-- ==== Sys2Proof/Machine/Checks.lean ====
section
/-! DEFINITION. The preconditions of spec/60_exceptions.md R212, each either passing (with the value it
reads, where it reads one) or naming its violation. An operation runs its checks in the report order of
R217: V12 first, then ascending class number (log 5). The block has no flags (10_state.md R13), so this
package has no flag computations. -/

namespace Sys2Proof.Machine

/-- The class number of a violation (R212). -/
def violationClass : Violation → Nat
  | .windowOrder _ => 1
  | .windowRange _ _ _ => 2
  | .oddCount12 _ => 3
  | .badMode _ => 4
  | .badOrient _ => 5
  | .badFont _ => 6
  | .charRange _ _ => 7
  | .glyphGeometry _ _ _ => 8
  | .streamLength _ _ => 9
  | .pixel16Mode _ => 10
  | .scrollRange _ _ => 11
  | .unwrittenState _ => 12
  | .rowRange _ => 13

/-- Passes where the precondition holds. -/
def require (p : Prop) [Decidable p] (v : Violation) : Except Violation Unit :=
  if p then .ok () else .error v

/-- A read of a configuration register: V12 where it is unwritten (10_state.md R20). -/
def readReg {α : Type} (name : RegName) : ConfigReg α → Except Violation α
  | .written v => .ok v
  | .unwritten => .error (.unwrittenState name)

/-- V1 (41_addressing.md R113). -/
def checkOrder (w : Window) : Except Violation Unit :=
  require (w.x0 ≤ w.x1 ∧ w.y0 ≤ w.y1) (.windowOrder w)

/-- V2 (R113). -/
def checkRange (o : Orientation) (w : Window) : Except Violation Unit :=
  require (w.x1 < logicalW o ∧ w.y1 < logicalH o) (.windowRange w (logicalW o) (logicalH o))

/-- `check_window` (R113): V1, then V2. -/
def checkWindow (o : Orientation) (w : Window) : Except Violation Unit := do
  checkOrder w
  checkRange o w

/-- V3: an even pixel count at 12-bit depth (40_color_codec.md R95, 20_memory.md R44). -/
def checkEven (m : ColorMode) (j : Nat) : Except Violation Unit :=
  require (m = .c12 → j % 2 = 0) (.oddCount12 j)

/-- V4: the depth a request operand names (40_color_codec.md R100). -/
def checkMode (b : Byte) : Except Violation ColorMode :=
  match modeOf b with
  | some m => .ok m
  | none => .error (.badMode b)

/-- V5: the orientation a request operand names (41_addressing.md R116). -/
def checkOrientation (b : Byte) : Except Violation Orientation :=
  match orientOf b with
  | some o => .ok o
  | none => .error (.badOrient b)

/-- V6: the font table a selector names (43_text.md R150, R152). -/
def checkFont (p : Params) (s : Byte) : Except Violation FontTable :=
  match fontOf p s with
  | some t => .ok t
  | none => .error (.badFont s)

/-- V7 for a character that is drawn, with its index (R154). A header with `bpg = 0` has no slot count to
compare with, and is V8 (log 15). -/
def checkChar (t : FontTable) (c : Byte) (index : Nat) : Except Violation Unit :=
  require (fontBias ≤ c.toNat ∧ (t.bpg = 0#8 ∨ glyphIndex c < glyphCount t)) (.charRange c index)

/-- V8: the glyph geometry the blitter is defined for (R153). -/
def checkGeometry (t : FontTable) : Except Violation Unit :=
  require (t.gw.toNat % 2 = 0 ∧ 2 ≤ t.gw.toNat ∧ t.gw.toNat ≤ 8 ∧ 1 ≤ t.gh.toNat ∧ t.gh ≤ t.bpg)
    (.glyphGeometry t.gw t.gh t.bpg)

/-- V9: the IN stream holds at least the elements the operation consumes (20_memory.md R35). -/
def checkStream (required supplied : Nat) : Except Violation Unit :=
  require (required ≤ supplied) (.streamLength required supplied)

/-- V10 (42_drawing.md R134). -/
def checkPixel16 (m : ColorMode) : Except Violation Unit := require (m = .c16) (.pixel16Mode m)

/-- V11 over the naturals (44_mode_power.md R193). -/
def checkScroll (top height : Half) : Except Violation Unit :=
  require (top.toNat + height.toNat ≤ panelH) (.scrollRange top height)

/-- V13 for PARTIAL_MODE (R189). -/
def checkRows (ya yb : Half) : Except Violation Unit :=
  require (ya.toNat ≤ yb.toNat ∧ yb.toNat < panelH) (.rowRange [ya, yb])

/-- V13 for SCROLL_START (R194). -/
def checkRow (position : Half) : Except Violation Unit :=
  require (position.toNat < panelH) (.rowRange [position])

/-- The registers a pixel operation reads: CMODE and ORIENT (42_drawing.md). -/
def readPixelRegs (s : State) : Except Violation (ColorMode × Orientation) := do
  let m ← readReg .cmode s.cmode
  let o ← readReg .orient s.orient
  return (m, o)

/-- What the text operations read (43_text.md R155, R160): all five registers, and the font table of the
active FontSize. -/
structure TextRegs where
  mode : ColorMode
  orient : Orientation
  font : FontTable
  fg : Rgb
  bg : Rgb
deriving DecidableEq, Repr

/-- The registers the text operations read. Each is read whether or not a glyph is drawn (log 6). FSIZE holds a
selector of FONTSIZES in every state a run reaches: elsewhere the request is refused as V6 (log 14). -/
def readTextRegs (s : State) : Except Violation TextRegs := do
  let (m, o) ← readPixelRegs s
  let f ← readReg .fsize s.fsize
  let fg ← readReg .fg s.fg
  let bg ← readReg .bg s.bg
  let t ← checkFont s.par f
  return ⟨m, o, t, fg, bg⟩

end Sys2Proof.Machine
end

