-- ==== Sys2Proof/Machine/Addressing.lean ====
section
/-! DEFINITION. The Addressing State Machine and Orientation (spec/41_addressing.md R110 to R120). The
block keeps no addressing state: the three window operations are emitters of fixed frames (R114). -/

namespace Sys2Proof.Machine

/-- SET_WINDOW (R110). -/
def execSetWindow (x0 y0 x1 y1 : Half) (s : State) : Result :=
  s.perform do
    let o ← readReg .orient s.orient
    checkWindow o (windowOf x0 y0 x1 y1)
    return s.setWindow (windowOf x0 y0 x1 y1)

/-- SET_WRITE_WINDOW (R111). -/
def execSetWriteWindow (x0 y0 x1 y1 : Half) (s : State) : Result :=
  s.perform do
    let o ← readReg .orient s.orient
    checkWindow o (windowOf x0 y0 x1 y1)
    return s.setWriteWindow (windowOf x0 y0 x1 y1)

/-- SET_READ_WINDOW (R112): it performs no read. -/
def execSetReadWindow (x0 y0 x1 y1 : Half) (s : State) : Result :=
  s.perform do
    let o ← readReg .orient s.orient
    checkWindow o (windowOf x0 y0 x1 y1)
    return s.setReadWindow (windowOf x0 y0 x1 y1)

/-- SET_ORIENTATION (R116): ORIENT is written after the frame. -/
def execSetOrientation (orient : Byte) (s : State) : Result :=
  s.perform do
    let o ← checkOrientation orient
    return (s.wireCmd .madctl [madctlVal s.par o]).writeOrient o

/-- GET_WIDTH (R119). -/
def execGetWidth (s : State) : Result :=
  s.perform do
    let o ← readReg .orient s.orient
    return s.respond (.value (BitVec.ofNat 16 (logicalW o)))

/-- GET_HEIGHT (R120). -/
def execGetHeight (s : State) : Result :=
  s.perform do
    let o ← readReg .orient s.orient
    return s.respond (.value (BitVec.ofNat 16 (logicalH o)))

end Sys2Proof.Machine
end

