-- ==== Sys2Proof/Machine/Codec.lean ====
section
/-! DEFINITION. The Color Codec (spec/40_color_codec.md): the packing functions R91 to R95 and
SET_COLOR_MODE R100. There is no unpacking direction (R98). -/

namespace Sys2Proof.Machine

/-- A 12-bit byte of two channel bytes, `(hi & 0xF0) | (lo >> 4)` (30_encoding.md R72). -/
def nibbles (hi lo : Byte) : Byte := (hi &&& 0xF0#8) ||| (lo >>> 4)

/-- `ENC12(P0, P1)`: two pixels in three bytes (R91). -/
def enc12 (p0 p1 : Colour) : List Byte :=
  [nibbles (red p0) (green p0), nibbles (blue p0) (red p1), nibbles (green p1) (blue p1)]

/-- `ENC16(P)`: 5-6-5 packing in two bytes (R92). -/
def enc16 (p : Colour) : List Byte :=
  [(red p &&& 0xF8#8) ||| (green p >>> 5), ((green p <<< 3) &&& 0xE0#8) ||| (blue p >>> 3)]

/-- `ENC18(P)`: three bytes, each channel masked to its top six bits (R93). -/
def enc18 (p : Colour) : List Byte := [red p &&& 0xFC#8, green p &&& 0xFC#8, blue p &&& 0xFC#8]

/-- `ENC_PAIR(P0, P1)`: the codec call on two pixels (R94). -/
def encPair : ColorMode → Colour → Colour → List Byte
  | .c12, p0, p1 => enc12 p0 p1
  | .c16, p0, p1 => enc16 p0 ++ enc16 p1
  | .c18, p0, p1 => enc18 p0 ++ enc18 p1

/-- The 12-bit packing of consecutive pairs (R95). -/
def enc12Pairs : List Colour → List Byte
  | p0 :: p1 :: ps => enc12 p0 p1 ++ enc12Pairs ps
  | _ => []

/-- `ENC_PIXELS(ps)`: V3 on an odd count at 12-bit depth (R95). -/
def encPixels (m : ColorMode) (ps : List Colour) : Except Violation (List Byte) :=
  match m with
  | .c12 => do
    checkEven .c12 ps.length
    return enc12Pairs ps
  | .c16 => .ok (ps.flatMap enc16)
  | .c18 => .ok (ps.flatMap enc18)

/-- The colour-set command with a whole table, index 0 first (R101). -/
def State.sendLut (s : State) (t : LutTable) : State := s.wireCmd .rgbset (lutBytes s.par t)

/-- The frames of SET_COLOR_MODE: the pixel format, then the table where the depth has one (R100). -/
def State.sendColorMode (s : State) (m : ColorMode) : State :=
  let s1 := s.wireCmd .colmod [pixfmtVal s.par m]
  match lutFor m with
  | some t => s1.sendLut t
  | none => s1

/-- SET_COLOR_MODE (R100): CMODE is written after the last event. -/
def execSetColorMode (mode : Byte) (s : State) : Result :=
  s.perform do
    let m ← checkMode mode
    return (s.sendColorMode m).writeCmode m

end Sys2Proof.Machine
end

