-- ==== Sys2Proof/Machine/Drawing.lean ====
section
/-! DEFINITION. The Drawing Primitives (spec/42_drawing.md R130 to R136). Every precondition is decided
before the first event. -/

namespace Sys2Proof.Machine

/-- The preconditions of an operation on a window of pixels, in report order: V12, V1, V2, V3. The answer
is the active depth. -/
def checkPixels (s : State) (w : Window) : Except Violation ColorMode := do
  let (m, o) ← readPixelRegs s
  checkWindow o w
  checkEven m (pixelCount w)
  return m

/-- FILL's data: the colour is packed once and the unit repeated (R130, D32). -/
def fillBytes (m : ColorMode) (j : Nat) (color : Colour) : List Byte :=
  match m with
  | .c12 => (List.replicate (j / 2) (enc12 color color)).flatten
  | .c16 => (List.replicate j (enc16 color)).flatten
  | .c18 => (List.replicate j (enc18 color)).flatten

/-- FILL (R130). -/
def execFill (x0 y0 x1 y1 : Half) (color : Colour) (s : State) : Result :=
  s.perform do
    let w := windowOf x0 y0 x1 y1
    let m ← checkPixels s w
    return (s.setWriteWindow w).send (fillBytes m (pixelCount w) color)

/-- FILL_FROM_ARRAY (R131). -/
def execFillFromArray (x0 y0 x1 y1 : Half) (s : State) : Result :=
  s.perform do
    let w := windowOf x0 y0 x1 y1
    let m ← checkPixels s w
    let j := pixelCount w
    checkStream j (streamColours s.inStream).length
    let bs ← encPixels m ((streamColours s.inStream).take j)
    return ((s.dropColours j).setWriteWindow w).send bs

/-- FILL_FROM_BUFFER (R132): the bytes are sent as they are. -/
def execFillFromBuffer (x0 y0 x1 y1 : Half) (s : State) : Result :=
  s.perform do
    let w := windowOf x0 y0 x1 y1
    let m ← checkPixels s w
    let nb := byteCount m w
    checkStream nb (streamBytes s.inStream).length
    return ((s.dropBytes nb).setWriteWindow w).send ((streamBytes s.inStream).take nb)

/-- SET_PIXEL (R133). One pixel is an odd count, so 12-bit depth is always V3. -/
def execSetPixel (x y : Half) (color : Colour) (s : State) : Result :=
  s.perform do
    let w := windowOf x y x y
    let (m, o) ← readPixelRegs s
    checkRange o w
    let bs ← encPixels m [color]
    return (s.setWriteWindow w).send bs

/-- SET_PIXEL16 (R134): the operand is a pixel already in wire format, sent high byte first. -/
def execSetPixel16 (x y : Half) (rgb565 : Half) (s : State) : Result :=
  s.perform do
    let w := windowOf x y x y
    let (m, o) ← readPixelRegs s
    checkRange o w
    checkPixel16 m
    return (s.setWriteWindow w).send (bytes16 rgb565)

/-- READ_MEMORY (R135): one byte read and discarded, then `NB` bytes to the OUT stream as they come. -/
def execReadMemory (x0 y0 x1 y1 : Half) (s : State) : Result :=
  s.perform do
    let w := windowOf x0 y0 x1 y1
    let m ← checkPixels s w
    return State.readToOut (byteCount m w) (s.setReadWindow w).busReadData

/-- The pseudo-operation `CLEAR_SCREEN color` (30_encoding.md R76): the FILL of the full logical extent. -/
def clearScreen (o : Orientation) (color : Colour) : Instr :=
  .fill 0#16 0#16 (BitVec.ofNat 16 (logicalW o - 1)) (BitVec.ofNat 16 (logicalH o - 1)) color

end Sys2Proof.Machine
end

