-- ==== Sys2Proof/Machine/ModePower.lean ====
section
/-! DEFINITION. The Mode/Power Controller and the initialisation sequence (spec/44_mode_power.md). None of
these operations reads or writes a configuration register (R195). -/

namespace Sys2Proof.Machine

/-- SLEEP_OUT's events: the command and its settling delay (R181). -/
def State.sleepOut (s : State) : State := (s.busCmd .slpout).delay .slpout

/-- SLEEP_IN (R180). -/
def execSleepIn (s : State) : Result := .next (s.busCmd .slpin)

/-- SLEEP_OUT (R181). -/
def execSleepOut (s : State) : Result := .next s.sleepOut

/-- DISPLAY_ON (R182). -/
def execDisplayOn (s : State) : Result := .next (s.busCmd .dispon)

/-- DISPLAY_OFF (R183). -/
def execDisplayOff (s : State) : Result := .next (s.busCmd .dispoff)

/-- IDLE_ON (R184). -/
def execIdleOn (s : State) : Result := .next (s.busCmd .idmon)

/-- IDLE_OFF (R185). -/
def execIdleOff (s : State) : Result := .next (s.busCmd .idmoff)

/-- INVERSION_ON (R186). -/
def execInversionOn (s : State) : Result := .next (s.busCmd .invon)

/-- INVERSION_OFF (R187). -/
def execInversionOff (s : State) : Result := .next (s.busCmd .invoff)

/-- NORMAL_MODE (R188). -/
def execNormalMode (s : State) : Result := .next (s.busCmd .noron)

/-- PARTIAL_MODE (R189): partial-mode-on, then the partial area. -/
def execPartialMode (ya yb : Half) (s : State) : Result :=
  s.perform do
    checkRows ya yb
    return (s.busCmd .ptlon).wireCmd .ptlar (bytes16 ya ++ bytes16 yb)

/-- GAMMA_SET (R190): every value is passed on. -/
def execGammaSet (value : Byte) (s : State) : Result := .next (s.wireCmd .gamset [value])

/-- TE_ON (R191). -/
def execTeOn (value : Byte) (s : State) : Result := .next (s.wireCmd .teon [value])

/-- TE_OFF (R192). -/
def execTeOff (s : State) : Result := .next (s.busCmd .teoff)

/-- SCROLL_AREA (R193): top, height and bottom, which is what the 208 physical rows leave. -/
def execScrollArea (ya yb : Half) (s : State) : Result :=
  s.perform do
    checkScroll ya yb
    return s.wireCmd .vscrdef
      (bytes16 ya ++ bytes16 yb ++ coordBytes (bottomFixed ya.toNat yb.toNat))

/-- SCROLL_START (R194). -/
def execScrollStart (ya : Half) (s : State) : Result :=
  s.perform do
    checkRow ya
    return s.wireCmd .vscrsadd (bytes16 ya)

/-- The controller's hardware reset on the RESET line (R200, 70_reset_and_hazards.md R242). It is no reset of
the block. -/
def State.controllerReset (s : State) : State :=
  (((s.resetLine .assert).delay .resetHold).resetLine .release).delay .resetSettle

/-- INIT (R200): the two bus-timing operands go to the excluded bus configuration and have no effect. -/
def execInit (_tAddr _tData : Byte) (s : State) : Result :=
  let s1 := s.controllerReset.sleepOut
  let s2 := ((s1.busCmd .invoff).busCmd .idmoff).busCmd .noron
  .next (((s2.delay .initSettle).busCmd .dispon).respond (.status s.par.statusOk))

end Sys2Proof.Machine
end

