-- ==== Sys2Proof/Machine/Text.lean ====
section
/-! DEFINITION. The Text Renderer (spec/43_text.md R150 to R162). A string operation first computes which
glyph cells it draws, checks each of them, and only then emits. -/

namespace Sys2Proof.Machine

/-- SET_FONT (R150): no event, the table is not examined. -/
def execSetFont (fsize : Byte) (s : State) : Result :=
  s.perform do
    let _ ← checkFont s.par fsize
    return s.writeFsize fsize

/-- SET_TEXT_COLORS (R151): no event, no violation. -/
def execSetTextColors (fg bg : Colour) (s : State) : Result :=
  s.perform (.ok (s.writeTextColors (dropHigh fg) (dropHigh bg)))

/-- The data bytes of one row of a glyph: one codec call for every two pixels (R155). -/
def glyphRowBytes (t : TextRegs) (c : Byte) (r : Nat) : List Byte :=
  (List.range (t.font.gw.toNat / 2)).flatMap fun k =>
    encPair t.mode (glyphPixel t.font t.fg t.bg c r (2 * k))
      (glyphPixel t.font t.fg t.bg c r (2 * k + 1))

/-- The data bytes of a glyph, row 0 first (R155). -/
def glyphBytes (t : TextRegs) (c : Byte) : List Byte :=
  (List.range t.font.gh.toNat).flatMap (glyphRowBytes t c)

/-- The window of the active font's cell at `x`, `y` (R155). -/
def glyphWindow (t : TextRegs) (x y : Nat) : Window :=
  cellWindow x y t.font.gw.toNat t.font.gh.toNat

/-- The events of one glyph: its write window, then its data (R155). -/
def State.drawGlyph (t : TextRegs) (c : Byte) (x y : Nat) (s : State) : State :=
  (s.setWriteWindow (glyphWindow t x y)).send (glyphBytes t c)

/-- PUT_CHAR (R155). Violations in report order: V12, V2, V7, V8. R212 asks V7 for the character's index in the
string, and PUT_CHAR has no string: DESIGN CHOICE, the index recorded is 0 (log 5). -/
def execPutChar (c : Byte) (x y : Half) (s : State) : Result :=
  s.perform do
    let t ← readTextRegs s
    checkRange t.orient (glyphWindow t x.toNat y.toNat)
    checkChar t.font c 0
    checkGeometry t.font
    return s.drawGlyph t c x.toNat y.toNat

/-- A glyph cell of a run: the character and its x position. -/
abbrev Cell := Byte × Nat

/-- `DRAW_RUN(cs, x)` (R157): the cells drawn, stopping before the first glyph that would exceed the width, and
the x position after the last of them. -/
def drawRun (gw width : Nat) : List Byte → Nat → List Cell × Nat
  | [], cx => ([], cx)
  | c :: cs, cx =>
    if cx + gw > width then ([], cx)
    else
      let rest := drawRun gw width cs (cx + gw)
      ((c, cx) :: rest.1, rest.2)

/-- The padding loop of R161: space glyphs while they fit. The fuel is the width, which the loop cannot use up
since each glyph is at least two columns wide. -/
def padRun (gw width : Nat) : Nat → Nat → List Cell
  | 0, _ => []
  | fuel + 1, cx =>
    if cx + gw ≤ width then (0x20#8, cx) :: padRun gw width fuel (cx + gw) else []

/-- The preconditions of PUT_CHAR for every cell of a run (R155, R157): V2 and V7, the latter with the index of the
cell in the run. R217 orders classes, not the characters of one class: DESIGN CHOICE, where several drawn
characters are outside the font V7 names the first in drawing order (log 5). -/
def checkCells (t : TextRegs) (y : Nat) : List Cell → Nat → Except Violation Unit
  | [], _ => .ok ()
  | (c, cx) :: cells, index => do
    checkRange t.orient (glyphWindow t cx y)
    checkChar t.font c index
    checkCells t y cells (index + 1)

/-- The glyphs of a run, in order (R157). -/
def State.drawCells (t : TextRegs) (y : Nat) : List Cell → State → State
  | [], s => s
  | (c, cx) :: cells, s => State.drawCells t y cells (s.drawGlyph t c cx y)

/-- The cells a string operation draws at `x`: the run of the string and, where it pads, the padding (R160,
R161). -/
def stringCells (t : TextRegs) (pad : Bool) (cs : List Byte) (x : Nat) : List Cell :=
  let gw := t.font.gw.toNat
  let width := logicalW t.orient
  let run := drawRun gw width cs x
  if pad then run.1 ++ padRun gw width width run.2 else run.1

/-- The cells a string operation draws at `x`, `y` from the codes supplied: none where the glyph height would
exceed the display height, which "rejects" the string (R160, R161). -/
def drawnCells (t : TextRegs) (pad : Bool) (cs : List Byte) (x y : Nat) : List Cell :=
  if y + t.font.gh.toNat > logicalH t.orient then [] else stringCells t pad cs x

/-- The common part of the string operations after their registers are read (R160, R161). Violations in report
order (R217): V7 for the characters that are drawn, V8, V9 (log 5). The characters are consumed whether or
not they are drawn. -/
def putStringAt (t : TextRegs) (pad : Bool) (x y len : Nat) (s : State) : Except Violation State := do
  let cs := (streamBytes s.inStream).take len
  let cells := drawnCells t pad cs x y
  checkCells t y cells 0
  checkGeometry t.font
  checkStream len (streamBytes s.inStream).length
  return State.drawCells t y cells (s.dropBytes len)

/-- PUT_STRING (R160). -/
def execPutString (x y len : Half) (s : State) : Result :=
  s.perform do
    let t ← readTextRegs s
    putStringAt t false x.toNat y.toNat len.toNat s

/-- PUT_STRING_CLEAR_TO_EOL (R161). -/
def execPutStringClearToEol (x y len : Half) (s : State) : Result :=
  s.perform do
    let t ← readTextRegs s
    putStringAt t true x.toNat y.toNat len.toNat s

/-- PUT_STRING_CENTERED (R162): PUT_STRING at the computed origin. -/
def execPutStringCentered (y len : Half) (s : State) : Result :=
  s.perform do
    let t ← readTextRegs s
    let x := centredX (logicalW t.orient) (len.toNat * t.font.gw.toNat)
    putStringAt t false x y.toNat len.toNat s

end Sys2Proof.Machine
end

