-- ==== Sys2Proof/Machine/Wire.lean ====
section
/-! DEFINITION. The wire rows of spec/opcode_table.json: the formats the block produces on the BUS port. Each
appends the trace segment that spec/30_encoding.md R64 to R70 give its row. The block emits them inside
the host operations, through the same operations on the state: no request frame spells one (log 11). -/

namespace Sys2Proof.Machine

/-- WIRE_PIX12: two pixels in three bytes (R64). -/
def execWirePix12 (p0 p1 : Colour) (s : State) : Result := .next (s.send (enc12 p0 p1))

/-- WIRE_PIX16: one pixel in two bytes (R65). -/
def execWirePix16 (p : Colour) (s : State) : Result := .next (s.send (enc16 p))

/-- WIRE_PIX18: one pixel in three bytes (R66). -/
def execWirePix18 (p : Colour) (s : State) : Result := .next (s.send (enc18 p))

/-- WIRE_CMD_SLPIN: sleep-in, 0 parameter bytes (R70). -/
def execWireCmdSlpin (s : State) : Result := .next (s.busCmd .slpin)

/-- WIRE_CMD_SLPOUT: sleep-out, 0 parameter bytes (R70). -/
def execWireCmdSlpout (s : State) : Result := .next (s.busCmd .slpout)

/-- WIRE_CMD_DISPON: display on, 0 parameter bytes (R70). -/
def execWireCmdDispon (s : State) : Result := .next (s.busCmd .dispon)

/-- WIRE_CMD_DISPOFF: display off, 0 parameter bytes (R70). -/
def execWireCmdDispoff (s : State) : Result := .next (s.busCmd .dispoff)

/-- WIRE_CMD_NORON: normal-display-mode-on, 0 parameter bytes (R70). -/
def execWireCmdNoron (s : State) : Result := .next (s.busCmd .noron)

/-- WIRE_CMD_IDMON: idle-mode on, 0 parameter bytes (R70). -/
def execWireCmdIdmon (s : State) : Result := .next (s.busCmd .idmon)

/-- WIRE_CMD_IDMOFF: idle-mode off, 0 parameter bytes (R70). -/
def execWireCmdIdmoff (s : State) : Result := .next (s.busCmd .idmoff)

/-- WIRE_CMD_INVON: display-inversion on, 0 parameter bytes (R70). -/
def execWireCmdInvon (s : State) : Result := .next (s.busCmd .invon)

/-- WIRE_CMD_INVOFF: display-inversion off, 0 parameter bytes (R70). -/
def execWireCmdInvoff (s : State) : Result := .next (s.busCmd .invoff)

/-- WIRE_CMD_CASET: column-address-set, 4 parameter bytes (R70). -/
def execWireCmdCaset (x0 x1 : Half) (s : State) : Result :=
  .next (s.wireCmd .caset (bytes16 x0 ++ bytes16 x1))

/-- WIRE_CMD_PASET: page-address-set, 4 parameter bytes (R70). -/
def execWireCmdPaset (y0 y1 : Half) (s : State) : Result :=
  .next (s.wireCmd .paset (bytes16 y0 ++ bytes16 y1))

/-- WIRE_CMD_RAMWR: memory-write, 0 parameter bytes (R70). -/
def execWireCmdRamwr (s : State) : Result := .next (s.busCmd .ramwr)

/-- WIRE_CMD_RAMRD: memory-read, 0 parameter bytes (R70). -/
def execWireCmdRamrd (s : State) : Result := .next (s.busCmd .ramrd)

/-- WIRE_CMD_MADCTL: memory-access-control, 1 parameter bytes (R70). -/
def execWireCmdMadctl (o : Orientation) (s : State) : Result :=
  .next (s.wireCmd .madctl [madctlVal s.par o])

/-- WIRE_CMD_COLMOD: interface-pixel-format, 1 parameter bytes (R70). -/
def execWireCmdColmod (m : ColorMode) (s : State) : Result :=
  .next (s.wireCmd .colmod [pixfmtVal s.par m])

/-- WIRE_CMD_RGBSET: colour-set, 128 parameter bytes (R70). -/
def execWireCmdRgbset (t : LutTable) (s : State) : Result := .next (s.sendLut t)

/-- WIRE_CMD_PTLON: partial-mode-on, 0 parameter bytes (R70). -/
def execWireCmdPtlon (s : State) : Result := .next (s.busCmd .ptlon)

/-- WIRE_CMD_PTLAR: partial-area, 4 parameter bytes (R70). -/
def execWireCmdPtlar (y0 y1 : Half) (s : State) : Result :=
  .next (s.wireCmd .ptlar (bytes16 y0 ++ bytes16 y1))

/-- WIRE_CMD_VSCRDEF: vertical-scrolling-definition, 6 parameter bytes (R70). -/
def execWireCmdVscrdef (top height bottom : Half) (s : State) : Result :=
  .next (s.wireCmd .vscrdef (bytes16 top ++ bytes16 height ++ bytes16 bottom))

/-- WIRE_CMD_VSCRSADD: vertical-scrolling-start-address, 2 parameter bytes (R70). -/
def execWireCmdVscrsadd (position : Half) (s : State) : Result :=
  .next (s.wireCmd .vscrsadd (bytes16 position))

/-- WIRE_CMD_GAMSET: gamma-set, 1 parameter bytes (R70). -/
def execWireCmdGamset (value : Byte) (s : State) : Result := .next (s.wireCmd .gamset [value])

/-- WIRE_CMD_TEON: tearing-effect-line on, 1 parameter bytes (R70). -/
def execWireCmdTeon (mode : Byte) (s : State) : Result := .next (s.wireCmd .teon [mode])

/-- WIRE_CMD_TEOFF: tearing-effect-line off, 0 parameter bytes (R70). -/
def execWireCmdTeoff (s : State) : Result := .next (s.busCmd .teoff)

end Sys2Proof.Machine
end

