-- ==== Sys2Proof/Machine/Dispatch.lean ====
section
/-! DEFINITION. One arm per constructor of `Instr`: each a direct call of the instruction's meaning. -/

namespace Sys2Proof.Machine

/-- The meaning of an instruction. -/
def exec (i : Instr) (s : State) : Host.Outcome State Fault Refusal :=
  match i with
  | .init tAddr tData => Sys2Proof.Machine.execInit tAddr tData s
  | .setColorMode mode => Sys2Proof.Machine.execSetColorMode mode s
  | .setOrientation orient => Sys2Proof.Machine.execSetOrientation orient s
  | .getWidth => Sys2Proof.Machine.execGetWidth s
  | .getHeight => Sys2Proof.Machine.execGetHeight s
  | .setWindow x0 y0 x1 y1 => Sys2Proof.Machine.execSetWindow x0 y0 x1 y1 s
  | .setWriteWindow x0 y0 x1 y1 => Sys2Proof.Machine.execSetWriteWindow x0 y0 x1 y1 s
  | .setReadWindow x0 y0 x1 y1 => Sys2Proof.Machine.execSetReadWindow x0 y0 x1 y1 s
  | .fill x0 y0 x1 y1 color => Sys2Proof.Machine.execFill x0 y0 x1 y1 color s
  | .fillFromArray x0 y0 x1 y1 => Sys2Proof.Machine.execFillFromArray x0 y0 x1 y1 s
  | .fillFromBuffer x0 y0 x1 y1 => Sys2Proof.Machine.execFillFromBuffer x0 y0 x1 y1 s
  | .setPixel x y color => Sys2Proof.Machine.execSetPixel x y color s
  | .setPixel16 x y rgb565 => Sys2Proof.Machine.execSetPixel16 x y rgb565 s
  | .readMemory x0 y0 x1 y1 => Sys2Proof.Machine.execReadMemory x0 y0 x1 y1 s
  | .setFont fsize => Sys2Proof.Machine.execSetFont fsize s
  | .setTextColors fg bg => Sys2Proof.Machine.execSetTextColors fg bg s
  | .putChar c x y => Sys2Proof.Machine.execPutChar c x y s
  | .putString x y len => Sys2Proof.Machine.execPutString x y len s
  | .putStringClearToEol x y len => Sys2Proof.Machine.execPutStringClearToEol x y len s
  | .putStringCentered y len => Sys2Proof.Machine.execPutStringCentered y len s
  | .sleepIn => Sys2Proof.Machine.execSleepIn s
  | .sleepOut => Sys2Proof.Machine.execSleepOut s
  | .displayOn => Sys2Proof.Machine.execDisplayOn s
  | .displayOff => Sys2Proof.Machine.execDisplayOff s
  | .idleOn => Sys2Proof.Machine.execIdleOn s
  | .idleOff => Sys2Proof.Machine.execIdleOff s
  | .inversionOn => Sys2Proof.Machine.execInversionOn s
  | .inversionOff => Sys2Proof.Machine.execInversionOff s
  | .normalMode => Sys2Proof.Machine.execNormalMode s
  | .partialMode ya yb => Sys2Proof.Machine.execPartialMode ya yb s
  | .gammaSet value => Sys2Proof.Machine.execGammaSet value s
  | .teOn value => Sys2Proof.Machine.execTeOn value s
  | .teOff => Sys2Proof.Machine.execTeOff s
  | .scrollArea ya yb => Sys2Proof.Machine.execScrollArea ya yb s
  | .scrollStart ya => Sys2Proof.Machine.execScrollStart ya s
  | .wirePix12 p0 p1 => Sys2Proof.Machine.execWirePix12 p0 p1 s
  | .wirePix16 p => Sys2Proof.Machine.execWirePix16 p s
  | .wirePix18 p => Sys2Proof.Machine.execWirePix18 p s
  | .wireCmdSlpin => Sys2Proof.Machine.execWireCmdSlpin s
  | .wireCmdSlpout => Sys2Proof.Machine.execWireCmdSlpout s
  | .wireCmdDispon => Sys2Proof.Machine.execWireCmdDispon s
  | .wireCmdDispoff => Sys2Proof.Machine.execWireCmdDispoff s
  | .wireCmdNoron => Sys2Proof.Machine.execWireCmdNoron s
  | .wireCmdIdmon => Sys2Proof.Machine.execWireCmdIdmon s
  | .wireCmdIdmoff => Sys2Proof.Machine.execWireCmdIdmoff s
  | .wireCmdInvon => Sys2Proof.Machine.execWireCmdInvon s
  | .wireCmdInvoff => Sys2Proof.Machine.execWireCmdInvoff s
  | .wireCmdCaset x0 x1 => Sys2Proof.Machine.execWireCmdCaset x0 x1 s
  | .wireCmdPaset y0 y1 => Sys2Proof.Machine.execWireCmdPaset y0 y1 s
  | .wireCmdRamwr => Sys2Proof.Machine.execWireCmdRamwr s
  | .wireCmdRamrd => Sys2Proof.Machine.execWireCmdRamrd s
  | .wireCmdMadctl o => Sys2Proof.Machine.execWireCmdMadctl o s
  | .wireCmdColmod m => Sys2Proof.Machine.execWireCmdColmod m s
  | .wireCmdRgbset t => Sys2Proof.Machine.execWireCmdRgbset t s
  | .wireCmdPtlon => Sys2Proof.Machine.execWireCmdPtlon s
  | .wireCmdPtlar y0 y1 => Sys2Proof.Machine.execWireCmdPtlar y0 y1 s
  | .wireCmdVscrdef top height bottom => Sys2Proof.Machine.execWireCmdVscrdef top height bottom s
  | .wireCmdVscrsadd position => Sys2Proof.Machine.execWireCmdVscrsadd position s
  | .wireCmdGamset value => Sys2Proof.Machine.execWireCmdGamset value s
  | .wireCmdTeon mode => Sys2Proof.Machine.execWireCmdTeon mode s
  | .wireCmdTeoff => Sys2Proof.Machine.execWireCmdTeoff s

end Sys2Proof.Machine
end

