-- ==== Sys2Proof/Machine/Step.lean ====
section
/-! DEFINITION. One step: the host's next request, decoded and run to completion (spec/10_state.md R12). -/

namespace Sys2Proof.Machine

/-- The state in which a request is in progress: it has left the host's list, and its IN stream is the one the
operation reads (20_memory.md R35). -/
def State.begin (s : State) (input : InStream) (rest : List Request) : State :=
  { s with requests := rest, inStream := input }

/-- One step. With no request pending the block waits (70_reset_and_hazards.md R240, R241). A frame that
spells no operation is refused at the port and produces no event (30_encoding.md R73). -/
def step (s : State) : Host.Outcome State Fault Refusal :=
  match s.requests with
  | [] => .next s
  | r :: rest =>
    match decodeFrame r.frame with
    | .ok i => exec i (s.begin r.input rest)
    | .error e => .refused (.badFrame e)

/-- The state with the request of a table word issued next: its frame first in the host's list. The IN stream
it carries is empty. -/
def State.withFetchWord (s : State) (nbits w : Nat) : State :=
  { s with requests := ⟨tableFrame nbits w, .bytes []⟩ :: s.requests }

end Sys2Proof.Machine
end

