-- ==== Sys2Proof/Safety.lean ====
section
/-! DEFINITION. What claims call safe: a run in which no request was refused (spec/60_exceptions.md R214:
every claim about a run takes "no operation was refused" as a premise), and the invariant of the register
file. -/

namespace Sys2Proof.Machine

/-- No request has been refused since reset (R214). -/
abbrev State.unrefused (s : State) : Prop := s.refusals = []

/-- A run of `k` steps from `s` that ends in `t` with no request refused. -/
def SafeRun (k : Nat) (s t : State) : Prop := Sys2Proof.core.run k s = .next t ∧ t.unrefused

/-- What a written FSIZE holds: a selector of FONTSIZES (10_state.md R17). -/
def fsizeLegal (p : Params) : ConfigReg Byte → Prop
  | .unwritten => True
  | .written f => ∃ t ∈ p.fonts, t.sel = f

/-- FG and BG are both written or both unwritten (R20). -/
def textColoursPaired : ConfigReg Rgb → ConfigReg Rgb → Prop
  | .unwritten, .unwritten => True
  | .written _, .written _ => True
  | _, _ => False

/-- The register invariant: FSIZE names a font of the machine, and the text colours are paired. -/
def State.Inv (s : State) : Prop := fsizeLegal s.par s.fsize ∧ textColoursPaired s.fg s.bg

/-- The five configuration registers of two states agree (R14). -/
abbrev sameRegs (s t : State) : Prop :=
  t.cmode = s.cmode ∧ t.orient = s.orient ∧ t.fsize = s.fsize ∧ t.fg = s.fg ∧ t.bg = s.bg

/-! ## The terms claims use, written from the rules and not from the meanings -/

/-- A window inside the logical extent, with its corners in order (41_addressing.md R113). -/
abbrev WindowLegal (o : Orientation) (x0 y0 x1 y1 : Half) : Prop :=
  (x0.toNat ≤ x1.toNat ∧ y0.toNat ≤ y1.toNat) ∧ x1.toNat < logicalW o ∧ y1.toNat < logicalH o

/-- `j = (x1-x0+1)*(y1-y0+1)` (42_drawing.md R136). -/
abbrev windowPixels (x0 y0 x1 y1 : Half) : Nat :=
  (x1.toNat - x0.toNat + 1) * (y1.toNat - y0.toNat + 1)

/-- The conditions under which a pixel operation runs: both registers it reads are written, the window is
legal, and the pixel count is even at 12-bit depth (R130). -/
abbrev PixelReady (s : State) (m : ColorMode) (o : Orientation) (x0 y0 x1 y1 : Half) : Prop :=
  s.cmode = .written m ∧ s.orient = .written o ∧ WindowLegal o x0 y0 x1 y1 ∧
    (m = .c12 → windowPixels x0 y0 x1 y1 % 2 = 0)

/-- The registers a text operation reads have the values in `t`, and FSIZE names `t`'s font (43_text.md R152). -/
abbrev TextReady (s : State) (t : TextRegs) : Prop :=
  s.cmode = .written t.mode ∧ s.orient = .written t.orient ∧
    (∃ f, s.fsize = .written f ∧ fontOf s.par f = some t.font) ∧
    s.fg = .written t.fg ∧ s.bg = .written t.bg

/-- The geometry the blitter is defined for (R153). -/
abbrev GeometryLegal (t : FontTable) : Prop :=
  t.gw.toNat % 2 = 0 ∧ 2 ≤ t.gw.toNat ∧ t.gw.toNat ≤ 8 ∧ 1 ≤ t.gh.toNat ∧ t.gh.toNat ≤ t.bpg.toNat

/-- A character code with a slot in the font (R154, decision D26). -/
abbrev CharLegal (t : FontTable) (c : Byte) : Prop :=
  0x1F ≤ c.toNat ∧ c.toNat - 0x1F < t.bitmap.length / t.bpg.toNat

/-- V7 does not hold of the character code (R212). A header with `bpg = 0` has no slot count to compare with, and
only the lower bound of V7 is tested there (log 15). -/
abbrev CharPasses (t : FontTable) (c : Byte) : Prop :=
  0x1F ≤ c.toNat ∧ (t.bpg = 0#8 ∨ c.toNat - 0x1F < t.bitmap.length / t.bpg.toNat)

/-- The string operation at height `y` draws its `k`-th glyph, at `x + k * gw`: the string is not too tall and the
glyph ends inside the width (R157, R160, R161). -/
abbrev CellFits (r : TextRegs) (x y k : Nat) : Prop :=
  y + r.font.gh.toNat ≤ logicalH r.orient ∧ x + (k + 1) * r.font.gw.toNat ≤ logicalW r.orient

/-- Every code the string operation draws passes V7: those of the codes `cs` that fit, and the space where the
operation pads and a pad fits (R157, R160, R161, R212). -/
abbrev DrawnCodesPass (r : TextRegs) (pad : Bool) (cs : List Byte) (x y : Nat) : Prop :=
  (∀ k c, cs[k]? = some c → CellFits r x y k → CharPasses r.font c) ∧
    (pad = true → CellFits r x y cs.length → CharPasses r.font 0x20#8)

/-- The string operation `i` draws from `x` on and does or does not pad (R160 to R162). -/
abbrev DrawsStringAt (i : Instr) (r : TextRegs) (y len : Half) (pad : Bool) (x : Nat) : Prop :=
  (∃ xa : Half, x = xa.toNat ∧
    (i = .putString xa y len ∧ pad = false ∨ i = .putStringClearToEol xa y len ∧ pad = true)) ∨
  (i = .putStringCentered y len ∧ pad = false ∧
    x = if len.toNat * r.font.gw.toNat > logicalW r.orient then 0
      else (logicalW r.orient - len.toNat * r.font.gw.toNat) / 2)

/-- The ten events of SET_WINDOW (41_addressing.md R110). -/
def windowFrames (p : Params) (x0 y0 x1 y1 : Half) : List Event :=
  [.cmd p.cmd.caset, .dat (hi8 x0), .dat (lo8 x0), .dat (hi8 x1), .dat (lo8 x1),
   .cmd p.cmd.paset, .dat (hi8 y0), .dat (lo8 y0), .dat (hi8 y1), .dat (lo8 y1)]

/-- A write transfer (R114). -/
def writeTransfer (p : Params) (x0 y0 x1 y1 : Half) (bs : List Byte) : List Event :=
  windowFrames p x0 y0 x1 y1 ++ .cmd p.cmd.ramwr :: bs.map .dat

/-- A read transfer: the dummy byte, then the pixel bytes (R114). -/
def readTransfer (p : Params) (x0 y0 x1 y1 : Half) (dummy : Byte) (bs : List Byte) : List Event :=
  windowFrames p x0 y0 x1 y1 ++ .cmd p.cmd.ramrd :: .rdd dummy :: bs.map .rdd

/-- The write transfer of one glyph at `x`, `y` (43_text.md R155). -/
def glyphTransfer (p : Params) (t : TextRegs) (c : Byte) (x y : Nat) : List Event :=
  writeTransfer p (BitVec.ofNat 16 x) (BitVec.ofNat 16 y)
    (BitVec.ofNat 16 (x + t.font.gw.toNat - 1)) (BitVec.ofNat 16 (y + t.font.gh.toNat - 1))
    (glyphBytes t c)

/-- A write transfer as data. -/
structure Transfer where
  x0 : Half
  y0 : Half
  x1 : Half
  y1 : Half
  bytes : List Byte
deriving DecidableEq, Repr

/-- A transfer whose window is legal and which carries exactly the window's byte count (R114, R136). -/
abbrev transferLegal (m : ColorMode) (o : Orientation) (tr : Transfer) : Prop :=
  WindowLegal o tr.x0 tr.y0 tr.x1 tr.y1 ∧
    2 * tr.bytes.length = windowPixels tr.x0 tr.y0 tr.x1 tr.y1 * bppx2 m

/-- The byte the environment answers to the k-th BUS read from here: the run's own answer, or the free value
(20_memory.md R45). -/
def busAnswerAt (s : State) (k : Nat) : Byte := s.answers.getD k (Config.busAnswer (s.reads + k))

/-- An event with the value read from the BUS hidden. -/
def hideRead : Event → Event
  | .rdd _ => .rdd 0#8
  | .rdr i _ => .rdr i 0#8
  | e => e

/-- The register of that name is unwritten (R20). -/
def regUnwritten (s : State) : RegName → Prop
  | .cmode => s.cmode = .unwritten
  | .orient => s.orient = .unwritten
  | .fsize => s.fsize = .unwritten
  | .fg => s.fg = .unwritten
  | .bg => s.bg = .unwritten

/-- The request is refused as V12, naming a register of the list that is unwritten. -/
def RefusesUnwritten (i : Instr) (s : State) (reads : List RegName) : Prop :=
  (∃ r ∈ reads, regUnwritten s r) →
    ∃ r ∈ reads, regUnwritten s r ∧ exec i s = .next (s.refuse (.unwrittenState r))

/-- How an operation on a window of pixels is refused, in the report order of R217: V12, V1, V2, V3. -/
def RefusesBadPixelWindow (i : Instr) (s : State) (x0 y0 x1 y1 : Half) : Prop :=
  RefusesUnwritten i s [.cmode, .orient] ∧
  ∀ m o, s.cmode = .written m → s.orient = .written o →
    (¬(x0.toNat ≤ x1.toNat ∧ y0.toNat ≤ y1.toNat) →
      exec i s = .next (s.refuse (.windowOrder ⟨x0.toNat, y0.toNat, x1.toNat, y1.toNat⟩))) ∧
    ((x0.toNat ≤ x1.toNat ∧ y0.toNat ≤ y1.toNat) → ¬WindowLegal o x0 y0 x1 y1 →
      exec i s = .next (s.refuse
        (.windowRange ⟨x0.toNat, y0.toNat, x1.toNat, y1.toNat⟩ (logicalW o) (logicalH o)))) ∧
    (WindowLegal o x0 y0 x1 y1 → m = .c12 → windowPixels x0 y0 x1 y1 % 2 = 1 →
      exec i s = .next (s.refuse (.oddCount12 (windowPixels x0 y0 x1 y1))))

/-- The operations that can never violate a precondition (60_exceptions.md R213). -/
def isTotalOp : Instr → Bool
  | .setTextColors _ _ | .gammaSet _ | .teOn _ | .teOff | .sleepIn | .sleepOut | .displayOn
  | .displayOff | .idleOn | .idleOff | .inversionOn | .inversionOff | .normalMode | .init _ _ => true
  | _ => false

/-- The string operations (43_text.md section 4). -/
def isStringOp : Instr → Bool
  | .putString _ _ _ | .putStringClearToEol _ _ _ | .putStringCentered _ _ => true
  | _ => false

/-- The text operations that draw (43_text.md R155, R160 to R162). -/
def isTextOp : Instr → Bool
  | .putChar _ _ _ => true
  | i => isStringOp i

/-- The operations that write pixels (R165). -/
def isPixelWriter : Instr → Bool
  | .fill _ _ _ _ _ | .fillFromArray _ _ _ _ | .fillFromBuffer _ _ _ _ | .setPixel _ _ _
  | .setPixel16 _ _ _ => true
  | i => isTextOp i

end Sys2Proof.Machine
end

