-- ==== Sys2Proof/Certificates/Slice0/Obligations.lean ====
section
/-! DEFINITION. The statements for the provers. Each docstring names the rules of spec/ it formalises, and
the log entry where a clause is the model's choice. An equation `exec i s = .next { s with ... }` is a
frame as well: every field it does not name is unchanged. -/

open Sys2Proof Sys2Proof.Machine

/-- R60 and R61: decode and encode agree on every request, with every operand value. The frame and its
selectors are the spec's decision D3. -/
def Obligations.EncodedRequestsDecodeToThemselves : Prop :=
  ∀ i : Instr, i.WellFormed → decodeFrame (encode i) = .ok i

/-- R60, R61, R73: the other direction. That a frame of another length is not accepted is the model's choice
(log 10), the frame the spec's decision D3. -/
def Obligations.AcceptedFramesAreTheEncodedOnes : Prop :=
  ∀ (bs : List Byte) (i : Instr), decodeFrame bs = .ok i → i.WellFormed ∧ encode i = bs

/-- 95_test_vectors.md section 2.7. The frame is the spec's decision D3. -/
def Obligations.WrittenOutFramesDecode : Prop :=
  decodeFrame [0x00#8, 0x00#8, 0x00#8] = .ok (.init 0 0) ∧
  decodeFrame [0x01#8, 0x10#8] = .ok (.setColorMode 16) ∧
  decodeFrame [0x02#8, 0x02#8] = .ok (.setOrientation 2) ∧
  decodeFrame [0x03#8] = .ok .getWidth ∧
  decodeFrame [0x10#8, 0x00#8, 0x01#8, 0x00#8, 0x02#8, 0x01#8, 0x03#8, 0x00#8, 0x04#8] =
    .ok (.setWindow 1 2 259 4) ∧
  decodeFrame [0x20#8, 0x00#8, 0x00#8, 0x00#8, 0x00#8, 0x00#8, 0x01#8, 0x00#8, 0x00#8, 0xFF#8,
    0xF0#8, 0x80#8, 0x20#8] = .ok (.fill 0 0 1 0 0xFFF08020#32) ∧
  decodeFrame [0x24#8, 0x00#8, 0x05#8, 0x00#8, 0x07#8, 0x11#8, 0xAA#8] =
    .ok (.setPixel16 5 7 0x11AA#16) ∧
  decodeFrame [0x32#8, 0x41#8, 0x00#8, 0x0A#8, 0x00#8, 0x14#8] = .ok (.putChar 0x41#8 10 20) ∧
  decodeFrame [0x35#8, 0x00#8, 0x64#8, 0x00#8, 0x05#8] = .ok (.putStringCentered 100 5) ∧
  decodeFrame [0x4D#8, 0x00#8, 0x14#8, 0x00#8, 0x32#8] = .ok (.scrollArea 20 50) ∧
  decodeFrame [0x4E#8, 0x00#8, 0x32#8] = .ok (.scrollStart 50)

/-- R73. The 35 selectors of R61 are written out. The frame and this verdict are the spec's decision D3. -/
def Obligations.UnassignedSelectorsAreRefusedAtThePort : Prop :=
  ∀ (s : State) (op : Byte) (rest : List Byte) (input : InStream) (reqs : List Request),
    s.requests = ⟨op :: rest, input⟩ :: reqs →
    (step s = .refused (.badFrame (.unassigned op)) ↔
      op.toNat ∉ [0x00, 0x01, 0x02, 0x03, 0x04, 0x10, 0x11, 0x12, 0x20, 0x21, 0x22, 0x23, 0x24,
        0x25, 0x30, 0x31, 0x32, 0x33, 0x34, 0x35, 0x40, 0x41, 0x42, 0x43, 0x44, 0x45, 0x46, 0x47,
        0x48, 0x49, 0x4A, 0x4B, 0x4C, 0x4D, 0x4E])

/-- R12, R35: one request is one operation, run as one step (the spec's decision D5, log 2). The list of
pending requests is the model's form of the host's side (log 1). -/
def Obligations.StepRunsTheDecodedRequest : Prop :=
  ∀ (s : State) (frame : List Byte) (input : InStream) (rest : List Request) (i : Instr),
    s.requests = ⟨frame, input⟩ :: rest → decodeFrame frame = .ok i →
    step s = exec i { s with requests := rest, inStream := input }

/-- The host's two questions about a table word have one answer. The model's choice: withFetchWord issues the
word ahead of the other requests and with an empty IN stream (log 1), and reads a word as a frame with the
selector in its top byte (log 12). -/
def Obligations.FetchedTableWordRunsNext : Prop :=
  ∀ (s : State) (nbits w : Nat) (i : Instr), decodeTableWord nbits w = some i →
    step (s.withFetchWord nbits w) = exec i { s with inStream := .bytes [] }

/-- That a step with no pending request answers the same state, in every state, is the model's reading (log
21) of R241: "The first thing the block does after reset is wait for the host's first request". -/
def Obligations.StepWithoutRequestWaits : Prop :=
  ∀ s : State, s.requests = [] → step s = .next s

/-- R240's table, less the controller's own state, which is outside the model. Unwritten registers are the
spec's decision D2 (log 3). That no response has been given is the model's form of it (log 17). -/
def Obligations.ResetLeavesEverythingUnwritten : Prop :=
  State.reset.cmode = .unwritten ∧ State.reset.orient = .unwritten ∧
  State.reset.fsize = .unwritten ∧ State.reset.fg = .unwritten ∧ State.reset.bg = .unwritten ∧
  State.reset.trace = [] ∧ State.reset.out = [] ∧ State.reset.responses = [] ∧
  State.reset.requests = [] ∧ State.reset.refusals = []

/-- R64, R91, in bit slices of the channels where the model uses masks and shifts. Which bits of a colour are
a channel is TheHighColourByteIsIgnored. -/
def Obligations.Enc12ConcatenatesHighNibbles : Prop :=
  ∀ p0 p1 : Colour, enc12 p0 p1 =
    [(red p0).extractLsb' 4 4 ++ (green p0).extractLsb' 4 4,
     (blue p0).extractLsb' 4 4 ++ (red p1).extractLsb' 4 4,
     (green p1).extractLsb' 4 4 ++ (blue p1).extractLsb' 4 4]

/-- R65, R92, in bit slices of the channels. -/
def Obligations.Enc16PacksFiveSixFive : Prop :=
  ∀ p : Colour, enc16 p =
    [(red p).extractLsb' 3 5 ++ (green p).extractLsb' 5 3,
     (green p).extractLsb' 2 3 ++ (blue p).extractLsb' 3 5]

/-- R66, R93, in bit slices of the channels. -/
def Obligations.Enc18MasksToTopSixBits : Prop :=
  ∀ p : Colour, enc18 p =
    [(red p).extractLsb' 2 6 ++ 0#2, (green p).extractLsb' 2 6 ++ 0#2,
     (blue p).extractLsb' 2 6 ++ 0#2]

/-- R96(d) and D0's testable property E1. The block itself never unpacks (R98). -/
def Obligations.Enc16UnpacksToKeptBits : Prop :=
  ∀ (p : Colour) (b0 b1 : Byte), enc16 p = [b0, b1] →
    b0 &&& 0xF8#8 = red p &&& 0xF8#8 ∧
    ((b0 &&& 0x07#8) <<< 5) ||| ((b1 &&& 0xE0#8) >>> 3) = green p &&& 0xFC#8 ∧
    (b1 &&& 0x1F#8) <<< 3 = blue p &&& 0xF8#8

/-- R96(b) and (c). The masks of the whole colour rest on the spec's decision D1 (log 16). -/
def Obligations.CodecIsInjectiveOnKeptBits : Prop :=
  (∀ p q : Colour, enc16 p = enc16 q ↔ p &&& 0xF8FCF8#32 = q &&& 0xF8FCF8#32) ∧
  (∀ p q : Colour, enc18 p = enc18 q ↔ p &&& 0xFCFCFC#32 = q &&& 0xFCFCFC#32) ∧
  (∀ p0 p1 q0 q1 : Colour, enc12 p0 p1 = enc12 q0 q1 ↔
    p0 &&& 0xF0F0F0#32 = q0 &&& 0xF0F0F0#32 ∧ p1 &&& 0xF0F0F0#32 = q1 &&& 0xF0F0F0#32)

/-- R95 and R97's table. -/
def Obligations.PackedLengthFollowsTheDepth : Prop :=
  ∀ ps : List Colour,
    (∃ bs, encPixels .c16 ps = .ok bs ∧ bs.length = 2 * ps.length) ∧
    (∃ bs, encPixels .c18 ps = .ok bs ∧ bs.length = 3 * ps.length) ∧
    (ps.length % 2 = 0 → ∃ bs, encPixels .c12 ps = .ok bs ∧ 2 * bs.length = 3 * ps.length) ∧
    (ps.length % 2 = 1 → encPixels .c12 ps = .error (.oddCount12 ps.length))

/-- R95: "For even n, ENC_PIXELS(ps) equals the concatenation of ENC_PAIR over consecutive pairs at every
depth". -/
def Obligations.EvenSequencesPackPairByPair : Prop :=
  ∀ (m : ColorMode) (pairs : List (Colour × Colour)),
    encPixels m (pairs.flatMap fun q => [q.1, q.2]) =
      .ok (pairs.flatMap fun q => encPair m q.1 q.2)

/-- R100. The order of the two commands is the spec's decision D9, the one parameter byte D7 (log 16). A
refusal is the spec's decision D10 (log 4). -/
def Obligations.SetColorModeProgramsTheController : Prop :=
  ∀ s : State,
    exec (.setColorMode 0x0C#8) s = .next { s with
      trace := s.trace ++ [.cmd s.par.cmd.colmod, .dat s.par.pixfmt.c12, .cmd s.par.cmd.rgbset] ++
        s.par.lut12.toList.map .dat,
      cmode := .written .c12 } ∧
    exec (.setColorMode 0x10#8) s = .next { s with
      trace := s.trace ++ [.cmd s.par.cmd.colmod, .dat s.par.pixfmt.c16, .cmd s.par.cmd.rgbset] ++
        s.par.lut16.toList.map .dat,
      cmode := .written .c16 } ∧
    exec (.setColorMode 0x12#8) s = .next { s with
      trace := s.trace ++ [.cmd s.par.cmd.colmod, .dat s.par.pixfmt.c18],
      cmode := .written .c18 } ∧
    ∀ mode : Byte, mode ≠ 0x0C#8 → mode ≠ 0x10#8 → mode ≠ 0x12#8 →
      exec (.setColorMode mode) s = .next (s.refuse (.badMode mode))

/-- R110, R111, R112 with the preconditions of R113. The range is the spec's decision D11, the order of report
D28. A refusal is the spec's decision D10 (log 4). -/
def Obligations.WindowOperationsEmitTheirFrames : Prop :=
  ∀ (s : State) (x0 y0 x1 y1 : Half),
    (∀ o, s.orient = .written o → WindowLegal o x0 y0 x1 y1 →
      exec (.setWindow x0 y0 x1 y1) s =
        .next { s with trace := s.trace ++ windowFrames s.par x0 y0 x1 y1 } ∧
      exec (.setWriteWindow x0 y0 x1 y1) s = .next { s with
        trace := s.trace ++ windowFrames s.par x0 y0 x1 y1 ++ [.cmd s.par.cmd.ramwr] } ∧
      exec (.setReadWindow x0 y0 x1 y1) s = .next { s with
        trace := s.trace ++ windowFrames s.par x0 y0 x1 y1 ++ [.cmd s.par.cmd.ramrd] }) ∧
    ∀ i ∈ [Instr.setWindow x0 y0 x1 y1, .setWriteWindow x0 y0 x1 y1, .setReadWindow x0 y0 x1 y1],
      RefusesUnwritten i s [.orient] ∧
      ∀ o, s.orient = .written o →
        (¬(x0.toNat ≤ x1.toNat ∧ y0.toNat ≤ y1.toNat) →
          exec i s = .next (s.refuse (.windowOrder ⟨x0.toNat, y0.toNat, x1.toNat, y1.toNat⟩))) ∧
        ((x0.toNat ≤ x1.toNat ∧ y0.toNat ≤ y1.toNat) → ¬WindowLegal o x0 y0 x1 y1 →
          exec i s = .next (s.refuse
            (.windowRange ⟨x0.toNat, y0.toNat, x1.toNat, y1.toNat⟩ (logicalW o) (logicalH o))))

/-- R116 with the operand values of R62. The one parameter byte is the spec's decision D30 (log 16). A refusal
is the spec's decision D10 (log 4). -/
def Obligations.SetOrientationWritesTheController : Prop :=
  ∀ s : State,
    exec (.setOrientation 0) s = .next { s with
      trace := s.trace ++ [.cmd s.par.cmd.madctl, .dat s.par.madctl.landscape],
      orient := .written .landscape } ∧
    exec (.setOrientation 1) s = .next { s with
      trace := s.trace ++ [.cmd s.par.cmd.madctl, .dat s.par.madctl.landscapeReversed],
      orient := .written .landscapeReversed } ∧
    exec (.setOrientation 2) s = .next { s with
      trace := s.trace ++ [.cmd s.par.cmd.madctl, .dat s.par.madctl.portrait],
      orient := .written .portrait } ∧
    exec (.setOrientation 3) s = .next { s with
      trace := s.trace ++ [.cmd s.par.cmd.madctl, .dat s.par.madctl.portraitReversed],
      orient := .written .portraitReversed } ∧
    ∀ b : Byte, 4 ≤ b.toNat → exec (.setOrientation b) s = .next (s.refuse (.badOrient b))

/-- R118 to R120. A refusal is the spec's decision D10 (log 4). -/
def Obligations.ExtentQueriesFollowOrientation : Prop :=
  ∀ s : State,
    (s.orient = .written .landscape ∨ s.orient = .written .landscapeReversed →
      exec .getWidth s = .next { s with responses := s.responses ++ [.value 208#16] } ∧
      exec .getHeight s = .next { s with responses := s.responses ++ [.value 176#16] }) ∧
    (s.orient = .written .portrait ∨ s.orient = .written .portraitReversed →
      exec .getWidth s = .next { s with responses := s.responses ++ [.value 176#16] } ∧
      exec .getHeight s = .next { s with responses := s.responses ++ [.value 208#16] }) ∧
    RefusesUnwritten .getWidth s [.orient] ∧ RefusesUnwritten .getHeight s [.orient]

/-- R130. The pair at 12 bits is the spec's decision D32. A refusal is the spec's decision D10 (log 4). -/
def Obligations.FillRepeatsThePackedColour : Prop :=
  ∀ (s : State) (m : ColorMode) (o : Orientation) (x0 y0 x1 y1 : Half) (c : Colour),
    (PixelReady s m o x0 y0 x1 y1 →
      exec (.fill x0 y0 x1 y1 c) s = .next { s with
        trace := s.trace ++ writeTransfer s.par x0 y0 x1 y1 (match m with
          | .c12 => (List.replicate (windowPixels x0 y0 x1 y1 / 2) (enc12 c c)).flatten
          | .c16 => (List.replicate (windowPixels x0 y0 x1 y1) (enc16 c)).flatten
          | .c18 => (List.replicate (windowPixels x0 y0 x1 y1) (enc18 c)).flatten) }) ∧
    RefusesBadPixelWindow (.fill x0 y0 x1 y1 c) s x0 y0 x1 y1

/-- The trace lengths of R130 and R155, D0's property E4. -/
def Obligations.TransfersHaveTheirExactEventCounts : Prop :=
  (∀ (s t : State) (m : ColorMode) (o : Orientation) (x0 y0 x1 y1 : Half) (c : Colour),
    PixelReady s m o x0 y0 x1 y1 → exec (.fill x0 y0 x1 y1 c) s = .next t →
    t.trace.length = s.trace.length + 11 + windowPixels x0 y0 x1 y1 *
      (match m with | .c12 => 3 | .c16 => 4 | .c18 => 6) / 2) ∧
  (∀ (s t : State) (r : TextRegs) (c : Byte) (x y : Half),
    TextReady s r → GeometryLegal r.font → CharLegal r.font c →
    x.toNat + r.font.gw.toNat ≤ logicalW r.orient → y.toNat + r.font.gh.toNat ≤ logicalH r.orient →
    exec (.putChar c x y) s = .next t →
    t.trace.length = s.trace.length + 11 + r.font.gw.toNat * r.font.gh.toNat *
      (match r.mode with | .c12 => 3 | .c16 => 4 | .c18 => 6) / 2)

/-- R131. A stream of bytes holds no colour (log 9). A refusal is the spec's decision D10 (log 4). -/
def Obligations.FillFromArrayPacksTheSuppliedColours : Prop :=
  ∀ (s : State) (m : ColorMode) (o : Orientation) (x0 y0 x1 y1 : Half),
    (∀ cs, PixelReady s m o x0 y0 x1 y1 → s.inStream = .colours cs →
      windowPixels x0 y0 x1 y1 ≤ cs.length →
      ∃ bs, encPixels m (cs.take (windowPixels x0 y0 x1 y1)) = .ok bs ∧
        exec (.fillFromArray x0 y0 x1 y1) s = .next { s with
          trace := s.trace ++ writeTransfer s.par x0 y0 x1 y1 bs,
          inStream := .colours (cs.drop (windowPixels x0 y0 x1 y1)) }) ∧
    (PixelReady s m o x0 y0 x1 y1 →
      (streamColours s.inStream).length < windowPixels x0 y0 x1 y1 →
      exec (.fillFromArray x0 y0 x1 y1) s = .next (s.refuse
        (.streamLength (windowPixels x0 y0 x1 y1) (streamColours s.inStream).length))) ∧
    RefusesBadPixelWindow (.fillFromArray x0 y0 x1 y1) s x0 y0 x1 y1

/-- R132. A stream of colours holds no byte (log 9). The byte count is the spec's decision D13. A refusal is
the spec's decision D10 (log 4). -/
def Obligations.FillFromBufferStreamsBytesVerbatim : Prop :=
  ∀ (s : State) (m : ColorMode) (o : Orientation) (x0 y0 x1 y1 : Half) (nb : Nat),
    nb = windowPixels x0 y0 x1 y1 * (match m with | .c12 => 3 | .c16 => 4 | .c18 => 6) / 2 →
    (∀ bs, PixelReady s m o x0 y0 x1 y1 → s.inStream = .bytes bs → nb ≤ bs.length →
      exec (.fillFromBuffer x0 y0 x1 y1) s = .next { s with
        trace := s.trace ++ writeTransfer s.par x0 y0 x1 y1 (bs.take nb),
        inStream := .bytes (bs.drop nb) }) ∧
    (PixelReady s m o x0 y0 x1 y1 → (streamBytes s.inStream).length < nb →
      exec (.fillFromBuffer x0 y0 x1 y1) s = .next (s.refuse
        (.streamLength nb (streamBytes s.inStream).length))) ∧
    RefusesBadPixelWindow (.fillFromBuffer x0 y0 x1 y1) s x0 y0 x1 y1

/-- R133. That one pixel has no 12-bit encoding to send is the spec's decision D15. A refusal is the spec's
decision D10 (log 4). -/
def Obligations.SetPixelSendsOnePackedPixel : Prop :=
  ∀ (s : State) (o : Orientation) (x y : Half) (c : Colour),
    (PixelReady s .c16 o x y x y → exec (.setPixel x y c) s = .next { s with
      trace := s.trace ++ writeTransfer s.par x y x y (enc16 c) }) ∧
    (PixelReady s .c18 o x y x y → exec (.setPixel x y c) s = .next { s with
      trace := s.trace ++ writeTransfer s.par x y x y (enc18 c) }) ∧
    (s.cmode = .written .c12 → s.orient = .written o → WindowLegal o x y x y →
      exec (.setPixel x y c) s = .next (s.refuse (.oddCount12 1))) ∧
    RefusesBadPixelWindow (.setPixel x y c) s x y x y

/-- R76: "behaves as FILL x, y, x, y, color". R133: "identical in trace". -/
def Obligations.SetPixelIsOnePixelFill : Prop :=
  ∀ (s : State) (x y : Half) (c : Colour), exec (.setPixel x y c) s = exec (.fill x y x y c) s

/-- R134. The byte order and V10 are the spec's decision D16 (log 16). A refusal is the spec's decision D10
(log 4). -/
def Obligations.SetPixel16SendsItsOperandHighByteFirst : Prop :=
  ∀ (s : State) (o : Orientation) (x y v : Half),
    (PixelReady s .c16 o x y x y → exec (.setPixel16 x y v) s = .next { s with
      trace := s.trace ++ writeTransfer s.par x y x y [v.extractLsb' 8 8, v.extractLsb' 0 8] }) ∧
    (∀ m, m ≠ .c16 → s.cmode = .written m → s.orient = .written o → WindowLegal o x y x y →
      exec (.setPixel16 x y v) s = .next (s.refuse (.pixel16Mode m))) ∧
    (∀ m, s.cmode = .written m → s.orient = .written o → ¬WindowLegal o x y x y →
      exec (.setPixel16 x y v) s = .next (s.refuse
        (.windowRange ⟨x.toNat, y.toNat, x.toNat, y.toNat⟩ (logicalW o) (logicalH o)))) ∧
    RefusesUnwritten (.setPixel16 x y v) s [.cmode, .orient]

/-- R135. The answers are free (R45, log 8): the statement holds for every value of them. The byte count is
the spec's decision D14 (log 16). A refusal is the spec's decision D10 (log 4). -/
def Obligations.ReadMemoryDiscardsOneByteAndCopiesTheRest : Prop :=
  ∀ (s : State) (m : ColorMode) (o : Orientation) (x0 y0 x1 y1 : Half) (nb : Nat),
    nb = windowPixels x0 y0 x1 y1 * (match m with | .c12 => 3 | .c16 => 4 | .c18 => 6) / 2 →
    (PixelReady s m o x0 y0 x1 y1 →
      exec (.readMemory x0 y0 x1 y1) s = .next { s with
        trace := s.trace ++ readTransfer s.par x0 y0 x1 y1 (busAnswerAt s 0)
          ((List.range nb).map fun k => busAnswerAt s (k + 1)),
        out := s.out ++ (List.range nb).map (fun k => busAnswerAt s (k + 1)),
        answers := s.answers.drop (nb + 1),
        reads := s.reads + (nb + 1) }) ∧
    RefusesBadPixelWindow (.readMemory x0 y0 x1 y1) s x0 y0 x1 y1

/-- R45, over two runs that differ only in what the environment answers. That the answers are free is the
spec's decision D27 (log 8). -/
def Obligations.BusAnswersInfluenceNothingButTheirCopies : Prop :=
  ∀ (i : Instr) (s t : State) (answers : List Byte) (reads : Nat), exec i s = .next t →
    ∃ u, exec i { s with answers := answers, reads := reads } = .next u ∧ sameRegs t u ∧
      u.responses = t.responses ∧ u.refusals = t.refusals ∧ u.inStream = t.inStream ∧
      u.requests = t.requests ∧ u.par = t.par ∧
      u.trace.map hideRead = t.trace.map hideRead ∧ u.out.length = t.out.length

/-- R137. The spec derives it from R130 to R132. -/
def Obligations.TheThreeFillsAgree : Prop :=
  ∀ (s : State) (m : ColorMode) (o : Orientation) (x0 y0 x1 y1 : Half) (c : Colour) (j : Nat),
    PixelReady s m o x0 y0 x1 y1 → j = (x1.toNat - x0.toNat + 1) * (y1.toNat - y0.toNat + 1) →
    ∃ bs t u v, encPixels m (List.replicate j c) = .ok bs ∧
      exec (.fill x0 y0 x1 y1 c) s = .next t ∧
      exec (.fillFromArray x0 y0 x1 y1)
        { s with inStream := .colours (List.replicate j c) } = .next u ∧
      exec (.fillFromBuffer x0 y0 x1 y1) { s with inStream := .bytes bs } = .next v ∧
      u.trace = t.trace ∧ v.trace = t.trace ∧
      t.refusals = s.refusals ∧ u.refusals = s.refusals ∧ v.refusals = s.refusals

/-- R36. The two runs of FILL_FROM_ARRAY differ in nothing but the unread rest of the two arrays. Which byte
is which channel is the spec's decision D1 (log 16). -/
def Obligations.TheHighColourByteIsIgnored : Prop :=
  (∀ p : Colour, red p = p.extractLsb' 16 8 ∧ green p = p.extractLsb' 8 8 ∧
    blue p = p.extractLsb' 0 8) ∧
  (∀ p q p' q' : Colour, p.extractLsb' 0 24 = q.extractLsb' 0 24 →
    p'.extractLsb' 0 24 = q'.extractLsb' 0 24 →
    ∀ (s : State) (x0 y0 x1 y1 : Half),
      exec (.fill x0 y0 x1 y1 p) s = exec (.fill x0 y0 x1 y1 q) s ∧
      exec (.setPixel x0 y0 p) s = exec (.setPixel x0 y0 q) s ∧
      exec (.setTextColors p p') s = exec (.setTextColors q q') s ∧
      exec (.wirePix12 p p') s = exec (.wirePix12 q q') s ∧
      exec (.wirePix16 p) s = exec (.wirePix16 q) s ∧
      exec (.wirePix18 p) s = exec (.wirePix18 q) s) ∧
  (∀ (s : State) (cs ds : List Colour) (x0 y0 x1 y1 : Half),
    cs.map (fun p => p.extractLsb' 0 24) = ds.map (fun p => p.extractLsb' 0 24) →
    ∃ t rest, exec (.fillFromArray x0 y0 x1 y1) { s with inStream := .colours cs } = .next t ∧
      exec (.fillFromArray x0 y0 x1 y1) { s with inStream := .colours ds } =
        .next { t with inStream := rest })

/-- R150, R151. The two setters are the spec's decision D31. A refusal is the spec's decision D10 (log 4). -/
def Obligations.TextSettersStoreTheirOperands : Prop :=
  ∀ s : State,
    (∀ f : Byte, (∃ t ∈ s.par.fonts, t.sel = f) →
      exec (.setFont f) s = .next { s with fsize := .written f }) ∧
    (∀ f : Byte, (∀ t ∈ s.par.fonts, t.sel ≠ f) →
      exec (.setFont f) s = .next (s.refuse (.badFont f))) ∧
    (∀ fg bg : Colour, exec (.setTextColors fg bg) s = .next { s with
      fg := .written (fg.extractLsb' 0 24), bg := .written (bg.extractLsb' 0 24) })

/-- R155 in the form of R156: the glyph as one pixel sequence, where the model makes one codec call per pair.
That a set bit is foreground is the spec's decision D17 (log 16). -/
def Obligations.PutCharBlitsTheGlyphRowMajor : Prop :=
  ∀ (s : State) (r : TextRegs) (c : Byte) (x y : Half),
    TextReady s r → GeometryLegal r.font → CharLegal r.font c →
    x.toNat + r.font.gw.toNat ≤ logicalW r.orient → y.toNat + r.font.gh.toNat ≤ logicalH r.orient →
    ∃ bs, encPixels r.mode ((List.range r.font.gh.toNat).flatMap fun row =>
        (List.range r.font.gw.toNat).map fun k =>
          if ((r.font.gw :: r.font.gh :: r.font.bpg :: r.font.bitmap).getD
              (3 + (c.toNat - 0x1F) * r.font.bpg.toNat + row) 0#8).getLsbD (7 - k)
          then r.fg.setWidth 32 else r.bg.setWidth 32) = .ok bs ∧
      exec (.putChar c x y) s = .next { s with
        trace := s.trace ++ writeTransfer s.par x y
          (BitVec.ofNat 16 (x.toNat + r.font.gw.toNat - 1))
          (BitVec.ofNat 16 (y.toNat + r.font.gh.toNat - 1)) bs }

/-- R80: the font address is "below the table length" under V7 and V8. -/
def Obligations.GlyphRowsLieInTheTable : Prop :=
  ∀ (t : FontTable) (c : Byte) (r : Nat), GeometryLegal t → CharLegal t c → r < t.gh.toNat →
    rowAddr t c r = 3 + (c.toNat - 0x1F) * t.bpg.toNat + r ∧
      rowAddr t c r < (fontBytes t).length

/-- R155 and R153 with the report order of R217, the spec's decision D28. A refusal is the spec's decision D10
(log 4). The corner of a cell of zero size and the index 0 are the model's choice (log 5), and so is V7 under
bpg = 0 (log 15). -/
def Obligations.PutCharIsRefusedInReportOrder : Prop :=
  ∀ (s : State) (r : TextRegs) (c : Byte) (x y : Half),
    RefusesUnwritten (.putChar c x y) s [.cmode, .orient, .fsize, .fg, .bg] ∧
    (TextReady s r →
      (¬(x.toNat + r.font.gw.toNat ≤ logicalW r.orient ∧
          y.toNat + r.font.gh.toNat ≤ logicalH r.orient) →
        exec (.putChar c x y) s = .next (s.refuse (.windowRange
          ⟨x.toNat, y.toNat, x.toNat + r.font.gw.toNat - 1, y.toNat + r.font.gh.toNat - 1⟩
          (logicalW r.orient) (logicalH r.orient)))) ∧
      (x.toNat + r.font.gw.toNat ≤ logicalW r.orient →
        y.toNat + r.font.gh.toNat ≤ logicalH r.orient →
        (¬CharPasses r.font c → exec (.putChar c x y) s = .next (s.refuse (.charRange c 0))) ∧
        (CharPasses r.font c → ¬GeometryLegal r.font →
          exec (.putChar c x y) s = .next (s.refuse
            (.glyphGeometry r.font.gw r.font.gh r.font.bpg)))))

/-- R157 and R160. The subtraction W() - x is 0 where x exceeds W(), which is R157's "0 otherwise". That a
glyph ending at W() is drawn and y + gh = H() is accepted is the spec's decision D19 (log 16). -/
def Obligations.PutStringDrawsTheGlyphsThatFit : Prop :=
  ∀ (s : State) (r : TextRegs) (x y len : Half) (cs : List Byte) (n : Nat),
    TextReady s r → GeometryLegal r.font → s.inStream = .bytes cs → len.toNat ≤ cs.length →
    y.toNat + r.font.gh.toNat ≤ logicalH r.orient →
    n = min len.toNat ((logicalW r.orient - x.toNat) / r.font.gw.toNat) →
    (∀ c ∈ cs.take n, CharLegal r.font c) →
    exec (.putString x y len) s = .next { s with
      inStream := .bytes (cs.drop len.toNat),
      trace := s.trace ++ (List.range n).flatMap (fun k =>
        glyphTransfer s.par r (cs.getD k 0#8) (x.toNat + k * r.font.gw.toNat) y.toNat) }

/-- R161 and D0's property E7. The comparisons are the spec's decision D19, the pads D21 (log 16). That a
missing slot 1 is no violation where no pad is drawn is the model's choice (log 22). -/
def Obligations.ClearToEolFillsTheLine : Prop :=
  ∀ (s : State) (r : TextRegs) (x y len : Half) (cs : List Byte) (n : Nat),
    TextReady s r → GeometryLegal r.font → s.inStream = .bytes cs → len.toNat ≤ cs.length →
    y.toNat + r.font.gh.toNat ≤ logicalH r.orient →
    n = (logicalW r.orient - x.toNat) / r.font.gw.toNat →
    (∀ c ∈ (cs.take len.toNat).take n, CharLegal r.font c) →
    (len.toNat < n → CharLegal r.font 0x20#8) →
    exec (.putStringClearToEol x y len) s = .next { s with
      inStream := .bytes (cs.drop len.toNat),
      trace := s.trace ++ (List.range n).flatMap (fun k =>
        glyphTransfer s.par r (if k < len.toNat then cs.getD k 0#8 else 0x20#8)
          (x.toNat + k * r.font.gw.toNat) y.toNat) }

/-- R162. The comparisons of width and height are the spec's decision D19 (log 16). -/
def Obligations.CenteredStringsAreCentred : Prop :=
  ∀ (s : State) (r : TextRegs) (y len : Half) (cs : List Byte) (tw x n : Nat),
    TextReady s r → GeometryLegal r.font → s.inStream = .bytes cs → len.toNat ≤ cs.length →
    y.toNat + r.font.gh.toNat ≤ logicalH r.orient →
    tw = len.toNat * r.font.gw.toNat →
    x = (if tw > logicalW r.orient then 0 else (logicalW r.orient - tw) / 2) →
    n = min len.toNat ((logicalW r.orient - x) / r.font.gw.toNat) →
    (∀ c ∈ cs.take n, CharLegal r.font c) →
    (tw ≤ logicalW r.orient → 2 * x + tw = logicalW r.orient) ∧
    exec (.putStringCentered y len) s = exec (.putString (BitVec.ofNat 16 x) y len) s ∧
    exec (.putStringCentered y len) s = .next { s with
      inStream := .bytes (cs.drop len.toNat),
      trace := s.trace ++ (List.range n).flatMap (fun k =>
        glyphTransfer s.par r (cs.getD k 0#8) (x + k * r.font.gw.toNat) y.toNat) }

/-- R160: "rejected: no event at all". The comparison is the spec's decision D19 (log 16). That
PUT_STRING_CLEAR_TO_EOL is no violation here on a font without slot 1 is the model's choice (log 22). -/
def Obligations.TooTallStringsAreRejectedSilently : Prop :=
  ∀ (s : State) (r : TextRegs) (x y len : Half) (cs : List Byte),
    TextReady s r → GeometryLegal r.font → s.inStream = .bytes cs → len.toNat ≤ cs.length →
    logicalH r.orient < y.toNat + r.font.gh.toNat →
    ∀ i ∈ [Instr.putString x y len, .putStringClearToEol x y len, .putStringCentered y len],
      exec i s = .next { s with inStream := .bytes (cs.drop len.toNat) }

/-- R160 to R162 with R212, in the order of R217, the spec's decision D28. A refusal is the spec's decision
D10 (log 4), the comparisons are D19 (log 16). The model's choice: V7 on the codes that are supplied and under
any header, and the first of several codes (log 5), V12 on a string that draws nothing (log 6), that a stream
of colours supplies no code, so that V7 and V8 are judged on none and V9 counts 0 (log 9), V7 under bpg = 0
(log 15), the index of a pad and slot 1 where no pad is drawn (log 22). -/
def Obligations.StringsAreRefusedByClass : Prop :=
  ∀ (s : State) (r : TextRegs) (y len : Half) (i : Instr) (pad : Bool) (x : Nat) (cs : List Byte),
    DrawsStringAt i r y len pad x → cs = (streamBytes s.inStream).take len.toNat →
    RefusesUnwritten i s [.cmode, .orient, .fsize, .fg, .bg] ∧
    (TextReady s r →
      (∀ (k : Nat) (c : Byte), cs[k]? = some c → CellFits r x y.toNat k →
        (∀ d ∈ cs.take k, CharPasses r.font d) → ¬CharPasses r.font c →
        exec i s = .next (s.refuse (.charRange c k))) ∧
      (pad = true → CellFits r x y.toNat cs.length → (∀ d ∈ cs, CharPasses r.font d) →
        ¬CharPasses r.font 0x20#8 →
        exec i s = .next (s.refuse (.charRange 0x20#8 cs.length))) ∧
      (DrawnCodesPass r pad cs x y.toNat → ¬GeometryLegal r.font →
        exec i s = .next (s.refuse (.glyphGeometry r.font.gw r.font.gh r.font.bpg))) ∧
      (DrawnCodesPass r pad cs x y.toNat → GeometryLegal r.font →
        (streamBytes s.inStream).length < len.toNat →
        exec i s = .next (s.refuse (.streamLength len.toNat (streamBytes s.inStream).length))))

/-- R180, R182 to R188, R190 to R192. -/
def Obligations.CommandEmittersSendTheirCommand : Prop :=
  ∀ (s : State) (v : Byte),
    exec .sleepIn s = .next { s with trace := s.trace ++ [.cmd s.par.cmd.slpin] } ∧
    exec .displayOn s = .next { s with trace := s.trace ++ [.cmd s.par.cmd.dispon] } ∧
    exec .displayOff s = .next { s with trace := s.trace ++ [.cmd s.par.cmd.dispoff] } ∧
    exec .idleOn s = .next { s with trace := s.trace ++ [.cmd s.par.cmd.idmon] } ∧
    exec .idleOff s = .next { s with trace := s.trace ++ [.cmd s.par.cmd.idmoff] } ∧
    exec .inversionOn s = .next { s with trace := s.trace ++ [.cmd s.par.cmd.invon] } ∧
    exec .inversionOff s = .next { s with trace := s.trace ++ [.cmd s.par.cmd.invoff] } ∧
    exec .normalMode s = .next { s with trace := s.trace ++ [.cmd s.par.cmd.noron] } ∧
    exec .teOff s = .next { s with trace := s.trace ++ [.cmd s.par.cmd.teoff] } ∧
    exec (.gammaSet v) s = .next { s with trace := s.trace ++ [.cmd s.par.cmd.gamset, .dat v] } ∧
    exec (.teOn v) s = .next { s with trace := s.trace ++ [.cmd s.par.cmd.teon, .dat v] }

/-- R181. That the delay is part of the operation is the spec's decision D24. -/
def Obligations.SleepOutWaitsBeforeItCompletes : Prop :=
  ∀ s : State, exec .sleepOut s = .next { s with
    trace := s.trace ++ [.cmd s.par.cmd.slpout, .dly s.par.delays.slpout] }

/-- R189. Order, layout and range are the spec's decision D22 (log 16). A refusal is the spec's decision D10
(log 4). -/
def Obligations.PartialModeSendsItsRows : Prop :=
  ∀ (s : State) (ya yb : Half),
    (ya.toNat ≤ yb.toNat → yb.toNat < 208 → exec (.partialMode ya yb) s = .next { s with
      trace := s.trace ++ [.cmd s.par.cmd.ptlon, .cmd s.par.cmd.ptlar, .dat (hi8 ya),
        .dat (lo8 ya), .dat (hi8 yb), .dat (lo8 yb)] }) ∧
    (yb.toNat < ya.toNat ∨ 208 ≤ yb.toNat →
      exec (.partialMode ya yb) s = .next (s.refuse (.rowRange [ya, yb])))

/-- R193; the sum is over the naturals (R80). The parameter widths are the spec's decision D23 (log 16). A
refusal is the spec's decision D10 (log 4). -/
def Obligations.ScrollAreaSendsTheBottomFixedArea : Prop :=
  ∀ (s : State) (top height : Half),
    (∀ b : Half, top.toNat + height.toNat + b.toNat = 208 →
      exec (.scrollArea top height) s = .next { s with
        trace := s.trace ++ [.cmd s.par.cmd.vscrdef, .dat (hi8 top), .dat (lo8 top),
          .dat (hi8 height), .dat (lo8 height), .dat (hi8 b), .dat (lo8 b)] }) ∧
    (208 < top.toNat + height.toNat →
      exec (.scrollArea top height) s = .next (s.refuse (.scrollRange top height)))

/-- R194. The parameter width and the range are the spec's decision D23 (log 16). A refusal is the spec's
decision D10 (log 4). -/
def Obligations.ScrollStartSendsItsPosition : Prop :=
  ∀ (s : State) (p : Half),
    (p.toNat < 208 → exec (.scrollStart p) s = .next { s with
      trace := s.trace ++ [.cmd s.par.cmd.vscrsadd, .dat (hi8 p), .dat (lo8 p)] }) ∧
    (208 ≤ p.toNat → exec (.scrollStart p) s = .next (s.refuse (.rowRange [p])))

/-- R200. The delay of SLEEP_OUT inside is the spec's decision D24, the idle operands D25 (log 23). Durations
and STATUS_OK are open parameters (R6, log 13). -/
def Obligations.InitEmitsElevenEventsAndStatusOk : Prop :=
  ∀ (s : State) (tAddr tData : Byte), exec (.init tAddr tData) s = .next { s with
    trace := s.trace ++ [.rst .assert, .dly s.par.delays.resetHold, .rst .release,
      .dly s.par.delays.resetSettle,
      .cmd s.par.cmd.slpout, .dly s.par.delays.slpout, .cmd s.par.cmd.invoff, .cmd s.par.cmd.idmoff,
      .cmd s.par.cmd.noron, .dly s.par.delays.initSettle, .cmd s.par.cmd.dispon],
    responses := s.responses ++ [.status s.par.statusOk] }

/-- R68 to R70. That a wire row is an operation of the model by itself is log 11. The layouts of partial-area,
scroll-definition and scroll-start are the spec's decisions D22 and D23, the one parameter byte of MADCTL and
COLMOD D30 and D7 (log 16). -/
def Obligations.WireCommandRowsEmitTheirFrames : Prop :=
  ∀ (s : State) (a b c : Half) (v : Byte),
    exec .wireCmdSlpin s = .next { s with trace := s.trace ++ [.cmd s.par.cmd.slpin] } ∧
    exec .wireCmdSlpout s = .next { s with trace := s.trace ++ [.cmd s.par.cmd.slpout] } ∧
    exec .wireCmdDispon s = .next { s with trace := s.trace ++ [.cmd s.par.cmd.dispon] } ∧
    exec .wireCmdDispoff s = .next { s with trace := s.trace ++ [.cmd s.par.cmd.dispoff] } ∧
    exec .wireCmdNoron s = .next { s with trace := s.trace ++ [.cmd s.par.cmd.noron] } ∧
    exec .wireCmdIdmon s = .next { s with trace := s.trace ++ [.cmd s.par.cmd.idmon] } ∧
    exec .wireCmdIdmoff s = .next { s with trace := s.trace ++ [.cmd s.par.cmd.idmoff] } ∧
    exec .wireCmdInvon s = .next { s with trace := s.trace ++ [.cmd s.par.cmd.invon] } ∧
    exec .wireCmdInvoff s = .next { s with trace := s.trace ++ [.cmd s.par.cmd.invoff] } ∧
    exec .wireCmdRamwr s = .next { s with trace := s.trace ++ [.cmd s.par.cmd.ramwr] } ∧
    exec .wireCmdRamrd s = .next { s with trace := s.trace ++ [.cmd s.par.cmd.ramrd] } ∧
    exec .wireCmdPtlon s = .next { s with trace := s.trace ++ [.cmd s.par.cmd.ptlon] } ∧
    exec .wireCmdTeoff s = .next { s with trace := s.trace ++ [.cmd s.par.cmd.teoff] } ∧
    exec (.wireCmdCaset a b) s = .next { s with trace := s.trace ++
      [.cmd s.par.cmd.caset, .dat (hi8 a), .dat (lo8 a), .dat (hi8 b), .dat (lo8 b)] } ∧
    exec (.wireCmdPaset a b) s = .next { s with trace := s.trace ++
      [.cmd s.par.cmd.paset, .dat (hi8 a), .dat (lo8 a), .dat (hi8 b), .dat (lo8 b)] } ∧
    exec (.wireCmdPtlar a b) s = .next { s with trace := s.trace ++
      [.cmd s.par.cmd.ptlar, .dat (hi8 a), .dat (lo8 a), .dat (hi8 b), .dat (lo8 b)] } ∧
    exec (.wireCmdVscrdef a b c) s = .next { s with trace := s.trace ++
      [.cmd s.par.cmd.vscrdef, .dat (hi8 a), .dat (lo8 a), .dat (hi8 b), .dat (lo8 b),
       .dat (hi8 c), .dat (lo8 c)] } ∧
    exec (.wireCmdVscrsadd a) s = .next { s with trace := s.trace ++
      [.cmd s.par.cmd.vscrsadd, .dat (hi8 a), .dat (lo8 a)] } ∧
    exec (.wireCmdGamset v) s = .next { s with trace := s.trace ++ [.cmd s.par.cmd.gamset, .dat v] } ∧
    exec (.wireCmdTeon v) s = .next { s with trace := s.trace ++ [.cmd s.par.cmd.teon, .dat v] } ∧
    exec (.wireCmdMadctl .landscape) s = .next { s with trace := s.trace ++
      [.cmd s.par.cmd.madctl, .dat s.par.madctl.landscape] } ∧
    exec (.wireCmdMadctl .landscapeReversed) s = .next { s with trace := s.trace ++
      [.cmd s.par.cmd.madctl, .dat s.par.madctl.landscapeReversed] } ∧
    exec (.wireCmdMadctl .portrait) s = .next { s with trace := s.trace ++
      [.cmd s.par.cmd.madctl, .dat s.par.madctl.portrait] } ∧
    exec (.wireCmdMadctl .portraitReversed) s = .next { s with trace := s.trace ++
      [.cmd s.par.cmd.madctl, .dat s.par.madctl.portraitReversed] } ∧
    exec (.wireCmdColmod .c12) s = .next { s with trace := s.trace ++
      [.cmd s.par.cmd.colmod, .dat s.par.pixfmt.c12] } ∧
    exec (.wireCmdColmod .c16) s = .next { s with trace := s.trace ++
      [.cmd s.par.cmd.colmod, .dat s.par.pixfmt.c16] } ∧
    exec (.wireCmdColmod .c18) s = .next { s with trace := s.trace ++
      [.cmd s.par.cmd.colmod, .dat s.par.pixfmt.c18] } ∧
    exec (.wireCmdRgbset .lut12) s = .next { s with trace := s.trace ++
      (.cmd s.par.cmd.rgbset :: s.par.lut12.toList.map .dat) } ∧
    exec (.wireCmdRgbset .lut16) s = .next { s with trace := s.trace ++
      (.cmd s.par.cmd.rgbset :: s.par.lut16.toList.map .dat) }

/-- R64 to R66 in bit slices. That a wire row is an operation of the model by itself is log 11. Which bits of
a colour are which channel is R36, the spec's decision D1 (log 16). -/
def Obligations.WirePixelRowsEmitTheirBytes : Prop :=
  ∀ (s : State) (p q : Colour),
    exec (.wirePix12 p q) s = .next { s with trace := s.trace ++
      [.dat (p.extractLsb' 20 4 ++ p.extractLsb' 12 4),
       .dat (p.extractLsb' 4 4 ++ q.extractLsb' 20 4),
       .dat (q.extractLsb' 12 4 ++ q.extractLsb' 4 4)] } ∧
    exec (.wirePix16 p) s = .next { s with trace := s.trace ++
      [.dat (p.extractLsb' 19 5 ++ p.extractLsb' 13 3),
       .dat (p.extractLsb' 10 3 ++ p.extractLsb' 3 5)] } ∧
    exec (.wirePix18 p) s = .next { s with trace := s.trace ++
      [.dat (p.extractLsb' 18 6 ++ 0#2), .dat (p.extractLsb' 10 6 ++ 0#2),
       .dat (p.extractLsb' 2 6 ++ 0#2)] }

/-- R210: no operation signals an exception. R165: every operation terminates. That a violated precondition
gives a next state with the refusal mark is the spec's decision D10 in the model's form (log 4). R6, R260: the
parameters are not state, which the model holds as a read-only record (log 7). -/
def Obligations.EveryOperationAnswersANextState : Prop :=
  ∀ (i : Instr) (s : State), ∃ t, exec i s = .next t ∧ t.requests = s.requests ∧
    t.par = s.par

/-- R214 and R218. That the run goes on after a refusal is log 4. -/
def Obligations.ARefusalChangesNothingElse : Prop :=
  ∀ (i : Instr) (s t : State), exec i s = .next t →
    t.refusals = s.refusals ∨
      ∃ v, t = { s with refusals := s.refusals ++ [v] }

/-- R17: FSIZE is a member of FONTSIZES. R20: FG and BG become written together. -/
def Obligations.StepKeepsTheRegisterInvariant : Prop :=
  ∀ s t : State, s.Inv → step s = .next t → t.Inv

/-- R240. -/
def Obligations.ResetMeetsTheRegisterInvariant : Prop :=
  State.reset.Inv

/-- R8 and R49: one total order, appended to. R214: the recorded refusal is never cleared (log 4). That the
OUT stream and the responses accumulate over a run is the model's reading (log 18, log 17), and the count of
reads is the model's own counter (log 8). -/
def Obligations.HistoryOnlyGrows : Prop :=
  ∀ s t : State, step s = .next t →
    s.trace <+: t.trace ∧ s.out <+: t.out ∧ s.responses <+: t.responses ∧
      s.refusals <+: t.refusals ∧ s.reads ≤ t.reads

/-- R14 and R21. -/
def Obligations.OnlySettersWriteRegisters : Prop :=
  ∀ (i : Instr) (s t : State), exec i s = .next t →
    ((∀ b, i ≠ .setColorMode b) → t.cmode = s.cmode) ∧
    ((∀ b, i ≠ .setOrientation b) → t.orient = s.orient) ∧
    ((∀ b, i ≠ .setFont b) → t.fsize = s.fsize) ∧
    ((∀ f b, i ≠ .setTextColors f b) → t.fg = s.fg ∧ t.bg = s.bg)

/-- R34, over every instruction in every state. -/
def Obligations.NoOperationWritesARom : Prop :=
  ∀ (i : Instr) (s t : State), exec i s = .next t →
    t.par.lut12 = s.par.lut12 ∧ t.par.lut16 = s.par.lut16 ∧ t.par.fonts = s.par.fonts

/-- R117, over two runs that differ only in ORIENT. -/
def Obligations.OrientationOnlyChangesTheExtent : Prop :=
  (∀ (s : State) (o : Orientation) (x0 y0 x1 y1 : Half), s.orient = .written o →
    WindowLegal o x0 y0 x1 y1 → exec (.setWindow x0 y0 x1 y1) s = .next { s with
      trace := s.trace ++ [.cmd s.par.cmd.caset, .dat (hi8 x0), .dat (lo8 x0), .dat (hi8 x1),
        .dat (lo8 x1), .cmd s.par.cmd.paset, .dat (hi8 y0), .dat (lo8 y0), .dat (hi8 y1),
        .dat (lo8 y1)] }) ∧
  ∀ (i : Instr) (s t : State) (o o' : Orientation), (∀ b, i ≠ .setOrientation b) →
    s.orient = .written o → exec i s = .next t →
    (logicalW o' = logicalW o → logicalH o' = logicalH o →
      exec i { s with orient := .written o' } = .next { t with orient := .written o' }) ∧
    (isStringOp i = false → i ≠ .getWidth → i ≠ .getHeight → ∀ u,
      exec i { s with orient := .written o' } = .next u → t.refusals = s.refusals →
      u.refusals = s.refusals → u = { t with orient := .written o' })

/-- R42. -/
def Obligations.NoOperationReadsAControllerRegister : Prop :=
  ∀ (i : Instr) (s t : State), exec i s = .next t →
    ∃ es, t.trace = s.trace ++ es ∧ ∀ e ∈ es, ∀ k v, e ≠ .rdr k v

/-- R114: the trace grammar of a write transfer, with its consequences (a) to (e). That a refused operation
appends nothing is R214, the spec's decision D10 (log 4). -/
def Obligations.PixelWritersEmitOnlyWholeTransfers : Prop :=
  ∀ (i : Instr) (s t : State), isPixelWriter i = true → exec i s = .next t →
    ∃ trs : List Transfer,
      t.trace = s.trace ++ trs.flatMap (fun tr =>
        writeTransfer s.par tr.x0 tr.y0 tr.x1 tr.y1 tr.bytes) ∧
      (∀ tr ∈ trs, ∃ m o, s.cmode = .written m ∧ s.orient = .written o ∧ transferLegal m o tr) ∧
      (t.refusals = s.refusals ∨ trs = [])

/-- R213. The spec derives it from R212 and the operation rules. -/
def Obligations.TotalOperationsAreNeverRefused : Prop :=
  ∀ (i : Instr) (s t : State), exec i s = .next t →
    (isTotalOp i = true → t.refusals = s.refusals) ∧
    (i = .getWidth ∨ i = .getHeight → ∀ v, t.refusals = s.refusals ++ [v] →
      violationClass v = 12) ∧
    (isStringOp i = true → ∀ v, t.refusals = s.refusals ++ [v] → violationClass v ≠ 2)
end

