-- ==== Sys2Proof/Laws/State.lean ====
section
/-! SUPPORT. One lemma per field per update of the state, so that no proof unfolds a record update. -/

namespace Sys2Proof.Machine

variable (s : State)

@[simp] theorem State.emit_cmode (es : List Event) : (s.emit es).cmode = s.cmode := rfl
@[simp] theorem State.emit_orient (es : List Event) : (s.emit es).orient = s.orient := rfl
@[simp] theorem State.emit_fsize (es : List Event) : (s.emit es).fsize = s.fsize := rfl
@[simp] theorem State.emit_fg (es : List Event) : (s.emit es).fg = s.fg := rfl
@[simp] theorem State.emit_bg (es : List Event) : (s.emit es).bg = s.bg := rfl
@[simp] theorem State.emit_trace (es : List Event) : (s.emit es).trace = s.trace ++ es := rfl
@[simp] theorem State.emit_out (es : List Event) : (s.emit es).out = s.out := rfl
@[simp] theorem State.emit_responses (es : List Event) : (s.emit es).responses = s.responses := rfl
@[simp] theorem State.emit_refusals (es : List Event) : (s.emit es).refusals = s.refusals := rfl
@[simp] theorem State.emit_inStream (es : List Event) : (s.emit es).inStream = s.inStream := rfl
@[simp] theorem State.emit_requests (es : List Event) : (s.emit es).requests = s.requests := rfl
@[simp] theorem State.emit_answers (es : List Event) : (s.emit es).answers = s.answers := rfl
@[simp] theorem State.emit_reads (es : List Event) : (s.emit es).reads = s.reads := rfl
@[simp] theorem State.emit_par (es : List Event) : (s.emit es).par = s.par := rfl

@[simp] theorem State.takeAnswer_cmode : (s.takeAnswer).cmode = s.cmode := rfl
@[simp] theorem State.takeAnswer_orient : (s.takeAnswer).orient = s.orient := rfl
@[simp] theorem State.takeAnswer_fsize : (s.takeAnswer).fsize = s.fsize := rfl
@[simp] theorem State.takeAnswer_fg : (s.takeAnswer).fg = s.fg := rfl
@[simp] theorem State.takeAnswer_bg : (s.takeAnswer).bg = s.bg := rfl
@[simp] theorem State.takeAnswer_trace : (s.takeAnswer).trace = s.trace := rfl
@[simp] theorem State.takeAnswer_out : (s.takeAnswer).out = s.out := rfl
@[simp] theorem State.takeAnswer_responses : (s.takeAnswer).responses = s.responses := rfl
@[simp] theorem State.takeAnswer_refusals : (s.takeAnswer).refusals = s.refusals := rfl
@[simp] theorem State.takeAnswer_inStream : (s.takeAnswer).inStream = s.inStream := rfl
@[simp] theorem State.takeAnswer_requests : (s.takeAnswer).requests = s.requests := rfl
@[simp] theorem State.takeAnswer_answers : (s.takeAnswer).answers = s.answers.tail := rfl
@[simp] theorem State.takeAnswer_reads : (s.takeAnswer).reads = s.reads + 1 := rfl
@[simp] theorem State.takeAnswer_par : (s.takeAnswer).par = s.par := rfl

@[simp] theorem State.outPut_cmode (b : Byte) : (s.outPut b).cmode = s.cmode := rfl
@[simp] theorem State.outPut_orient (b : Byte) : (s.outPut b).orient = s.orient := rfl
@[simp] theorem State.outPut_fsize (b : Byte) : (s.outPut b).fsize = s.fsize := rfl
@[simp] theorem State.outPut_fg (b : Byte) : (s.outPut b).fg = s.fg := rfl
@[simp] theorem State.outPut_bg (b : Byte) : (s.outPut b).bg = s.bg := rfl
@[simp] theorem State.outPut_trace (b : Byte) : (s.outPut b).trace = s.trace := rfl
@[simp] theorem State.outPut_out (b : Byte) : (s.outPut b).out = s.out ++ [b] := rfl
@[simp] theorem State.outPut_responses (b : Byte) : (s.outPut b).responses = s.responses := rfl
@[simp] theorem State.outPut_refusals (b : Byte) : (s.outPut b).refusals = s.refusals := rfl
@[simp] theorem State.outPut_inStream (b : Byte) : (s.outPut b).inStream = s.inStream := rfl
@[simp] theorem State.outPut_requests (b : Byte) : (s.outPut b).requests = s.requests := rfl
@[simp] theorem State.outPut_answers (b : Byte) : (s.outPut b).answers = s.answers := rfl
@[simp] theorem State.outPut_reads (b : Byte) : (s.outPut b).reads = s.reads := rfl
@[simp] theorem State.outPut_par (b : Byte) : (s.outPut b).par = s.par := rfl

@[simp] theorem State.respond_cmode (r : Response) : (s.respond r).cmode = s.cmode := rfl
@[simp] theorem State.respond_orient (r : Response) : (s.respond r).orient = s.orient := rfl
@[simp] theorem State.respond_fsize (r : Response) : (s.respond r).fsize = s.fsize := rfl
@[simp] theorem State.respond_fg (r : Response) : (s.respond r).fg = s.fg := rfl
@[simp] theorem State.respond_bg (r : Response) : (s.respond r).bg = s.bg := rfl
@[simp] theorem State.respond_trace (r : Response) : (s.respond r).trace = s.trace := rfl
@[simp] theorem State.respond_out (r : Response) : (s.respond r).out = s.out := rfl
@[simp] theorem State.respond_responses (r : Response) :
    (s.respond r).responses = s.responses ++ [r] := rfl
@[simp] theorem State.respond_refusals (r : Response) : (s.respond r).refusals = s.refusals := rfl
@[simp] theorem State.respond_inStream (r : Response) : (s.respond r).inStream = s.inStream := rfl
@[simp] theorem State.respond_requests (r : Response) : (s.respond r).requests = s.requests := rfl
@[simp] theorem State.respond_answers (r : Response) : (s.respond r).answers = s.answers := rfl
@[simp] theorem State.respond_reads (r : Response) : (s.respond r).reads = s.reads := rfl
@[simp] theorem State.respond_par (r : Response) : (s.respond r).par = s.par := rfl

@[simp] theorem State.writeCmode_cmode (m : ColorMode) : (s.writeCmode m).cmode = .written m := rfl
@[simp] theorem State.writeCmode_orient (m : ColorMode) : (s.writeCmode m).orient = s.orient := rfl
@[simp] theorem State.writeCmode_fsize (m : ColorMode) : (s.writeCmode m).fsize = s.fsize := rfl
@[simp] theorem State.writeCmode_fg (m : ColorMode) : (s.writeCmode m).fg = s.fg := rfl
@[simp] theorem State.writeCmode_bg (m : ColorMode) : (s.writeCmode m).bg = s.bg := rfl
@[simp] theorem State.writeCmode_trace (m : ColorMode) : (s.writeCmode m).trace = s.trace := rfl
@[simp] theorem State.writeCmode_out (m : ColorMode) : (s.writeCmode m).out = s.out := rfl
@[simp] theorem State.writeCmode_responses (m : ColorMode) :
    (s.writeCmode m).responses = s.responses := rfl
@[simp] theorem State.writeCmode_refusals (m : ColorMode) :
    (s.writeCmode m).refusals = s.refusals := rfl
@[simp] theorem State.writeCmode_inStream (m : ColorMode) :
    (s.writeCmode m).inStream = s.inStream := rfl
@[simp] theorem State.writeCmode_requests (m : ColorMode) :
    (s.writeCmode m).requests = s.requests := rfl
@[simp] theorem State.writeCmode_answers (m : ColorMode) :
    (s.writeCmode m).answers = s.answers := rfl
@[simp] theorem State.writeCmode_reads (m : ColorMode) : (s.writeCmode m).reads = s.reads := rfl
@[simp] theorem State.writeCmode_par (m : ColorMode) : (s.writeCmode m).par = s.par := rfl

@[simp] theorem State.writeOrient_cmode (o : Orientation) : (s.writeOrient o).cmode = s.cmode := rfl
@[simp] theorem State.writeOrient_orient (o : Orientation) :
    (s.writeOrient o).orient = .written o := rfl
@[simp] theorem State.writeOrient_fsize (o : Orientation) : (s.writeOrient o).fsize = s.fsize := rfl
@[simp] theorem State.writeOrient_fg (o : Orientation) : (s.writeOrient o).fg = s.fg := rfl
@[simp] theorem State.writeOrient_bg (o : Orientation) : (s.writeOrient o).bg = s.bg := rfl
@[simp] theorem State.writeOrient_trace (o : Orientation) : (s.writeOrient o).trace = s.trace := rfl
@[simp] theorem State.writeOrient_out (o : Orientation) : (s.writeOrient o).out = s.out := rfl
@[simp] theorem State.writeOrient_responses (o : Orientation) :
    (s.writeOrient o).responses = s.responses := rfl
@[simp] theorem State.writeOrient_refusals (o : Orientation) :
    (s.writeOrient o).refusals = s.refusals := rfl
@[simp] theorem State.writeOrient_inStream (o : Orientation) :
    (s.writeOrient o).inStream = s.inStream := rfl
@[simp] theorem State.writeOrient_requests (o : Orientation) :
    (s.writeOrient o).requests = s.requests := rfl
@[simp] theorem State.writeOrient_answers (o : Orientation) :
    (s.writeOrient o).answers = s.answers := rfl
@[simp] theorem State.writeOrient_reads (o : Orientation) : (s.writeOrient o).reads = s.reads := rfl
@[simp] theorem State.writeOrient_par (o : Orientation) : (s.writeOrient o).par = s.par := rfl

@[simp] theorem State.writeFsize_cmode (f : Byte) : (s.writeFsize f).cmode = s.cmode := rfl
@[simp] theorem State.writeFsize_orient (f : Byte) : (s.writeFsize f).orient = s.orient := rfl
@[simp] theorem State.writeFsize_fsize (f : Byte) : (s.writeFsize f).fsize = .written f := rfl
@[simp] theorem State.writeFsize_fg (f : Byte) : (s.writeFsize f).fg = s.fg := rfl
@[simp] theorem State.writeFsize_bg (f : Byte) : (s.writeFsize f).bg = s.bg := rfl
@[simp] theorem State.writeFsize_trace (f : Byte) : (s.writeFsize f).trace = s.trace := rfl
@[simp] theorem State.writeFsize_out (f : Byte) : (s.writeFsize f).out = s.out := rfl
@[simp] theorem State.writeFsize_responses (f : Byte) :
    (s.writeFsize f).responses = s.responses := rfl
@[simp] theorem State.writeFsize_refusals (f : Byte) : (s.writeFsize f).refusals = s.refusals := rfl
@[simp] theorem State.writeFsize_inStream (f : Byte) : (s.writeFsize f).inStream = s.inStream := rfl
@[simp] theorem State.writeFsize_requests (f : Byte) : (s.writeFsize f).requests = s.requests := rfl
@[simp] theorem State.writeFsize_answers (f : Byte) : (s.writeFsize f).answers = s.answers := rfl
@[simp] theorem State.writeFsize_reads (f : Byte) : (s.writeFsize f).reads = s.reads := rfl
@[simp] theorem State.writeFsize_par (f : Byte) : (s.writeFsize f).par = s.par := rfl

@[simp] theorem State.writeTextColors_cmode (fg bg : Rgb) :
    (s.writeTextColors fg bg).cmode = s.cmode := rfl
@[simp] theorem State.writeTextColors_orient (fg bg : Rgb) :
    (s.writeTextColors fg bg).orient = s.orient := rfl
@[simp] theorem State.writeTextColors_fsize (fg bg : Rgb) :
    (s.writeTextColors fg bg).fsize = s.fsize := rfl
@[simp] theorem State.writeTextColors_fg (fg bg : Rgb) :
    (s.writeTextColors fg bg).fg = .written fg := rfl
@[simp] theorem State.writeTextColors_bg (fg bg : Rgb) :
    (s.writeTextColors fg bg).bg = .written bg := rfl
@[simp] theorem State.writeTextColors_trace (fg bg : Rgb) :
    (s.writeTextColors fg bg).trace = s.trace := rfl
@[simp] theorem State.writeTextColors_out (fg bg : Rgb) :
    (s.writeTextColors fg bg).out = s.out := rfl
@[simp] theorem State.writeTextColors_responses (fg bg : Rgb) :
    (s.writeTextColors fg bg).responses = s.responses := rfl
@[simp] theorem State.writeTextColors_refusals (fg bg : Rgb) :
    (s.writeTextColors fg bg).refusals = s.refusals := rfl
@[simp] theorem State.writeTextColors_inStream (fg bg : Rgb) :
    (s.writeTextColors fg bg).inStream = s.inStream := rfl
@[simp] theorem State.writeTextColors_requests (fg bg : Rgb) :
    (s.writeTextColors fg bg).requests = s.requests := rfl
@[simp] theorem State.writeTextColors_answers (fg bg : Rgb) :
    (s.writeTextColors fg bg).answers = s.answers := rfl
@[simp] theorem State.writeTextColors_reads (fg bg : Rgb) :
    (s.writeTextColors fg bg).reads = s.reads := rfl
@[simp] theorem State.writeTextColors_par (fg bg : Rgb) :
    (s.writeTextColors fg bg).par = s.par := rfl

@[simp] theorem State.dropColours_cmode (n : Nat) : (s.dropColours n).cmode = s.cmode := rfl
@[simp] theorem State.dropColours_orient (n : Nat) : (s.dropColours n).orient = s.orient := rfl
@[simp] theorem State.dropColours_fsize (n : Nat) : (s.dropColours n).fsize = s.fsize := rfl
@[simp] theorem State.dropColours_fg (n : Nat) : (s.dropColours n).fg = s.fg := rfl
@[simp] theorem State.dropColours_bg (n : Nat) : (s.dropColours n).bg = s.bg := rfl
@[simp] theorem State.dropColours_trace (n : Nat) : (s.dropColours n).trace = s.trace := rfl
@[simp] theorem State.dropColours_out (n : Nat) : (s.dropColours n).out = s.out := rfl
@[simp] theorem State.dropColours_responses (n : Nat) :
    (s.dropColours n).responses = s.responses := rfl
@[simp] theorem State.dropColours_refusals (n : Nat) :
    (s.dropColours n).refusals = s.refusals := rfl
@[simp] theorem State.dropColours_inStream (n : Nat) :
    (s.dropColours n).inStream = .colours ((streamColours s.inStream).drop n) := rfl
@[simp] theorem State.dropColours_requests (n : Nat) :
    (s.dropColours n).requests = s.requests := rfl
@[simp] theorem State.dropColours_answers (n : Nat) : (s.dropColours n).answers = s.answers := rfl
@[simp] theorem State.dropColours_reads (n : Nat) : (s.dropColours n).reads = s.reads := rfl
@[simp] theorem State.dropColours_par (n : Nat) : (s.dropColours n).par = s.par := rfl

@[simp] theorem State.dropBytes_cmode (n : Nat) : (s.dropBytes n).cmode = s.cmode := rfl
@[simp] theorem State.dropBytes_orient (n : Nat) : (s.dropBytes n).orient = s.orient := rfl
@[simp] theorem State.dropBytes_fsize (n : Nat) : (s.dropBytes n).fsize = s.fsize := rfl
@[simp] theorem State.dropBytes_fg (n : Nat) : (s.dropBytes n).fg = s.fg := rfl
@[simp] theorem State.dropBytes_bg (n : Nat) : (s.dropBytes n).bg = s.bg := rfl
@[simp] theorem State.dropBytes_trace (n : Nat) : (s.dropBytes n).trace = s.trace := rfl
@[simp] theorem State.dropBytes_out (n : Nat) : (s.dropBytes n).out = s.out := rfl
@[simp] theorem State.dropBytes_responses (n : Nat) : (s.dropBytes n).responses = s.responses := rfl
@[simp] theorem State.dropBytes_refusals (n : Nat) : (s.dropBytes n).refusals = s.refusals := rfl
@[simp] theorem State.dropBytes_inStream (n : Nat) :
    (s.dropBytes n).inStream = .bytes ((streamBytes s.inStream).drop n) := rfl
@[simp] theorem State.dropBytes_requests (n : Nat) : (s.dropBytes n).requests = s.requests := rfl
@[simp] theorem State.dropBytes_answers (n : Nat) : (s.dropBytes n).answers = s.answers := rfl
@[simp] theorem State.dropBytes_reads (n : Nat) : (s.dropBytes n).reads = s.reads := rfl
@[simp] theorem State.dropBytes_par (n : Nat) : (s.dropBytes n).par = s.par := rfl

@[simp] theorem State.refuse_cmode (v : Violation) : (s.refuse v).cmode = s.cmode := rfl
@[simp] theorem State.refuse_orient (v : Violation) : (s.refuse v).orient = s.orient := rfl
@[simp] theorem State.refuse_fsize (v : Violation) : (s.refuse v).fsize = s.fsize := rfl
@[simp] theorem State.refuse_fg (v : Violation) : (s.refuse v).fg = s.fg := rfl
@[simp] theorem State.refuse_bg (v : Violation) : (s.refuse v).bg = s.bg := rfl
@[simp] theorem State.refuse_trace (v : Violation) : (s.refuse v).trace = s.trace := rfl
@[simp] theorem State.refuse_out (v : Violation) : (s.refuse v).out = s.out := rfl
@[simp] theorem State.refuse_responses (v : Violation) : (s.refuse v).responses = s.responses := rfl
@[simp] theorem State.refuse_refusals (v : Violation) :
    (s.refuse v).refusals = s.refusals ++ [v] := rfl
@[simp] theorem State.refuse_inStream (v : Violation) : (s.refuse v).inStream = s.inStream := rfl
@[simp] theorem State.refuse_requests (v : Violation) : (s.refuse v).requests = s.requests := rfl
@[simp] theorem State.refuse_answers (v : Violation) : (s.refuse v).answers = s.answers := rfl
@[simp] theorem State.refuse_reads (v : Violation) : (s.refuse v).reads = s.reads := rfl
@[simp] theorem State.refuse_par (v : Violation) : (s.refuse v).par = s.par := rfl

@[simp] theorem State.begin_cmode (inp : InStream) (rest : List Request) :
    (s.begin inp rest).cmode = s.cmode := rfl
@[simp] theorem State.begin_orient (inp : InStream) (rest : List Request) :
    (s.begin inp rest).orient = s.orient := rfl
@[simp] theorem State.begin_fsize (inp : InStream) (rest : List Request) :
    (s.begin inp rest).fsize = s.fsize := rfl
@[simp] theorem State.begin_fg (inp : InStream) (rest : List Request) :
    (s.begin inp rest).fg = s.fg := rfl
@[simp] theorem State.begin_bg (inp : InStream) (rest : List Request) :
    (s.begin inp rest).bg = s.bg := rfl
@[simp] theorem State.begin_trace (inp : InStream) (rest : List Request) :
    (s.begin inp rest).trace = s.trace := rfl
@[simp] theorem State.begin_out (inp : InStream) (rest : List Request) :
    (s.begin inp rest).out = s.out := rfl
@[simp] theorem State.begin_responses (inp : InStream) (rest : List Request) :
    (s.begin inp rest).responses = s.responses := rfl
@[simp] theorem State.begin_refusals (inp : InStream) (rest : List Request) :
    (s.begin inp rest).refusals = s.refusals := rfl
@[simp] theorem State.begin_inStream (inp : InStream) (rest : List Request) :
    (s.begin inp rest).inStream = inp := rfl
@[simp] theorem State.begin_requests (inp : InStream) (rest : List Request) :
    (s.begin inp rest).requests = rest := rfl
@[simp] theorem State.begin_answers (inp : InStream) (rest : List Request) :
    (s.begin inp rest).answers = s.answers := rfl
@[simp] theorem State.begin_reads (inp : InStream) (rest : List Request) :
    (s.begin inp rest).reads = s.reads := rfl
@[simp] theorem State.begin_par (inp : InStream) (rest : List Request) :
    (s.begin inp rest).par = s.par := rfl

@[simp] theorem State.withFetchWord_cmode (nbits w : Nat) :
    (s.withFetchWord nbits w).cmode = s.cmode := rfl
@[simp] theorem State.withFetchWord_orient (nbits w : Nat) :
    (s.withFetchWord nbits w).orient = s.orient := rfl
@[simp] theorem State.withFetchWord_fsize (nbits w : Nat) :
    (s.withFetchWord nbits w).fsize = s.fsize := rfl
@[simp] theorem State.withFetchWord_fg (nbits w : Nat) : (s.withFetchWord nbits w).fg = s.fg := rfl
@[simp] theorem State.withFetchWord_bg (nbits w : Nat) : (s.withFetchWord nbits w).bg = s.bg := rfl
@[simp] theorem State.withFetchWord_trace (nbits w : Nat) :
    (s.withFetchWord nbits w).trace = s.trace := rfl
@[simp] theorem State.withFetchWord_out (nbits w : Nat) :
    (s.withFetchWord nbits w).out = s.out := rfl
@[simp] theorem State.withFetchWord_responses (nbits w : Nat) :
    (s.withFetchWord nbits w).responses = s.responses := rfl
@[simp] theorem State.withFetchWord_refusals (nbits w : Nat) :
    (s.withFetchWord nbits w).refusals = s.refusals := rfl
@[simp] theorem State.withFetchWord_inStream (nbits w : Nat) :
    (s.withFetchWord nbits w).inStream = s.inStream := rfl
@[simp] theorem State.withFetchWord_requests (nbits w : Nat) :
    (s.withFetchWord nbits w).requests = ⟨tableFrame nbits w, .bytes []⟩ :: s.requests := rfl
@[simp] theorem State.withFetchWord_answers (nbits w : Nat) :
    (s.withFetchWord nbits w).answers = s.answers := rfl
@[simp] theorem State.withFetchWord_reads (nbits w : Nat) :
    (s.withFetchWord nbits w).reads = s.reads := rfl
@[simp] theorem State.withFetchWord_par (nbits w : Nat) :
    (s.withFetchWord nbits w).par = s.par := rfl

/-- A fresh machine's registers are unwritten and its lists are empty (R240). -/
@[simp] theorem State.reset_refusals : State.reset.refusals = [] := rfl
@[simp] theorem State.reset_trace : State.reset.trace = [] := rfl
@[simp] theorem State.reset_requests : State.reset.requests = [] := rfl
@[simp] theorem State.reset_par : State.reset.par = Config.params := rfl

end Sys2Proof.Machine
end

