-- ==== Sys2Proof/Laws/Ops.lean ====
section
/-! SUPPORT. One lemma for each shared operation that says everything it can do. The operations that emit are
put in one normal form, `s.emit es`. -/

namespace Sys2Proof.Laws

open Sys2Proof.Machine

/-! ## Emission -/

@[simp] theorem emit_nil (s : State) : s.emit [] = s := by simp [State.emit]

@[simp] theorem emit_emit (s : State) (a b : List Event) : (s.emit a).emit b = s.emit (a ++ b) := by
  simp [State.emit]

@[simp] theorem busCmd_eq_emit (s : State) (c : Cmd) :
    s.busCmd c = s.emit [.cmd (cmdByte s.par c)] := rfl

@[simp] theorem send_eq_emit (s : State) (bs : List Byte) : s.send bs = s.emit (bs.map .dat) := rfl

@[simp] theorem busData_eq_emit (s : State) (b : Byte) : s.busData b = s.emit [.dat b] := rfl

@[simp] theorem wireCmd_eq_emit (s : State) (c : Cmd) (ps : List Byte) :
    s.wireCmd c ps = s.emit (.cmd (cmdByte s.par c) :: ps.map .dat) := by
  simp [State.wireCmd]

@[simp] theorem resetLine_eq_emit (s : State) (l : ResetLevel) : s.resetLine l = s.emit [.rst l] := rfl

@[simp] theorem delay_eq_emit (s : State) (t : Duration) :
    s.delay t = s.emit [.dly (durationVal s.par t)] := rfl

@[simp] theorem coordBytes_toNat (v : Half) : coordBytes v.toNat = bytes16 v := by
  simp [coordBytes]

/-- The ten events of SET_WINDOW (R110). -/
theorem setWindow_eq_emit (s : State) (w : Window) :
    s.setWindow w = s.emit
      (.cmd s.par.cmd.caset :: (coordBytes w.x0 ++ coordBytes w.x1).map .dat ++
        .cmd s.par.cmd.paset :: (coordBytes w.y0 ++ coordBytes w.y1).map .dat) := by
  simp [State.setWindow, cmdByte]

/-- SET_WINDOW on four operands, in the terms claims use. -/
theorem setWindow_windowOf (s : State) (x0 y0 x1 y1 : Half) :
    s.setWindow (windowOf x0 y0 x1 y1) = s.emit (windowFrames s.par x0 y0 x1 y1) := by
  simp [setWindow_eq_emit, windowOf, windowFrames, bytes16]

/-- A write window and its data are one write transfer (R114). -/
theorem setWriteWindow_send (s : State) (x0 y0 x1 y1 : Half) (bs : List Byte) :
    (s.setWriteWindow (windowOf x0 y0 x1 y1)).send bs =
      s.emit (writeTransfer s.par x0 y0 x1 y1 bs) := by
  simp [State.setWriteWindow, setWindow_windowOf, writeTransfer, cmdByte]

/-- A lookup table is sent in index order (R31). -/
theorem ofFn_getElem_eq_toList {n : Nat} (v : Vector Byte n) :
    List.ofFn (fun i : Fin n => v[i]) = v.toList := by
  apply List.ext_getElem <;> simp

@[simp] theorem lutBytes_lut12 (p : Params) : lutBytes p .lut12 = p.lut12.toList :=
  ofFn_getElem_eq_toList p.lut12

@[simp] theorem lutBytes_lut16 (p : Params) : lutBytes p .lut16 = p.lut16.toList :=
  ofFn_getElem_eq_toList p.lut16

/-- Storing a read answer and emitting are independent. -/
theorem takeAnswer_emit (s : State) (es : List Event) :
    (s.emit es).takeAnswer = s.takeAnswer.emit es := rfl

/-- The answer to the next BUS read does not depend on the trace. -/
@[simp] theorem nextAnswer_emit (s : State) (es : List Event) :
    (s.emit es).nextAnswer = s.nextAnswer := rfl

/-- What READ_MEMORY's loop leaves alone, whatever the number of reads. -/
theorem readToOut_frame (n : Nat) (s : State) :
    sameRegs s (State.readToOut n s) ∧ (State.readToOut n s).par = s.par ∧
      (State.readToOut n s).refusals = s.refusals ∧ (State.readToOut n s).responses = s.responses ∧
      (State.readToOut n s).requests = s.requests ∧ (State.readToOut n s).inStream = s.inStream := by
  induction n generalizing s with
  | zero => simp [State.readToOut, sameRegs]
  | succ n ih =>
    simpa [State.readToOut, State.busReadData, sameRegs] using ih (s.busReadData.outPut s.nextAnswer)

/-- READ_MEMORY's loop makes exactly one BUS read per byte. -/
theorem readToOut_reads (n : Nat) (s : State) :
    (State.readToOut n s).reads = s.reads + n ∧
      (State.readToOut n s).answers = s.answers.drop n := by
  induction n generalizing s with
  | zero => simp [State.readToOut]
  | succ n ih =>
    have h := ih (s.busReadData.outPut s.nextAnswer)
    simp only [State.busReadData, State.outPut_reads, State.emit_reads, State.takeAnswer_reads,
      State.outPut_answers, State.emit_answers, State.takeAnswer_answers, List.drop_tail] at h
    exact ⟨by rw [State.readToOut]; exact h.1.trans (by omega), by rw [State.readToOut]; exact h.2⟩

/-- The next answer is answer 0 from here. -/
theorem nextAnswer_eq (s : State) : s.nextAnswer = busAnswerAt s 0 := by
  unfold State.nextAnswer busAnswerAt
  split <;> simp_all

/-- One read moves the answers up by one. -/
theorem busAnswerAt_busReadData (s : State) (k : Nat) :
    busAnswerAt s.busReadData k = busAnswerAt s (k + 1) := by
  simp only [busAnswerAt, State.busReadData, State.emit_answers, State.emit_reads,
    State.takeAnswer_answers, State.takeAnswer_reads, List.getD_eq_getElem?_getD, List.getElem?_tail]
  congr 2
  omega

/-- READ_MEMORY's loop, whole: `n` answers to the trace and to the OUT stream, in order (R135). -/
theorem readToOut_eq (n : Nat) (s : State) : State.readToOut n s = { s with
    trace := s.trace ++ (List.range n).map (fun k => .rdd (busAnswerAt s k)),
    out := s.out ++ (List.range n).map (fun k => busAnswerAt s k),
    answers := s.answers.drop n,
    reads := s.reads + n } := by
  induction n generalizing s with
  | zero => simp [State.readToOut]
  | succ n ih =>
    have h : ∀ k, busAnswerAt (s.busReadData.outPut s.nextAnswer) k = busAnswerAt s (k + 1) :=
      busAnswerAt_busReadData s
    rw [State.readToOut, ih]
    simp only [h]
    simp [nextAnswer_eq, List.range_succ_eq_map, State.busReadData, Function.comp_def, State.outPut,
      State.emit, State.takeAnswer]
    omega

/-! ## Outcomes -/

@[simp] theorem perform_ok (s t : State) : s.perform (.ok t) = .next t := rfl

@[simp] theorem perform_error (s : State) (v : Violation) :
    s.perform (.error v) = .next (s.refuse v) := rfl

/-- An operation answers a next state in exactly two ways: it ran, or it was refused. -/
theorem perform_eq_next {s t : State} {r : Except Violation State} :
    s.perform r = .next t ↔ r = .ok t ∨ ∃ v, r = .error v ∧ t = s.refuse v := by
  cases r with
  | ok u => simp
  | error v => simp [eq_comm]

@[simp] theorem bind_ok {α β : Type} (a : α) (f : α → Except Violation β) :
    ((Except.ok a : Except Violation α) >>= f) = f a := rfl

@[simp] theorem bind_error {α β : Type} (v : Violation) (f : α → Except Violation β) :
    ((Except.error v : Except Violation α) >>= f) = .error v := rfl

@[simp] theorem pure_eq_ok {α : Type} (a : α) : (pure a : Except Violation α) = .ok a := rfl

/-- A sequence of checks passes exactly where each does. -/
theorem bind_eq_ok {α β : Type} {x : Except Violation α} {f : α → Except Violation β} {b : β} :
    (x >>= f) = .ok b ↔ ∃ a, x = .ok a ∧ f a = .ok b := by
  cases x with
  | ok a => simp
  | error v => simp

/-- A sequence of checks reports the first that does not pass. -/
theorem bind_eq_error {α β : Type} {x : Except Violation α} {f : α → Except Violation β}
    {v : Violation} :
    (x >>= f) = .error v ↔ x = .error v ∨ ∃ a, x = .ok a ∧ f a = .error v := by
  cases x with
  | ok a => simp
  | error w => simp

/-! ## Checks -/

@[simp] theorem require_eq_ok {p : Prop} [Decidable p] {v : Violation} {u : Unit} :
    require p v = .ok u ↔ p := by
  unfold require; split <;> simp_all

@[simp] theorem require_eq_error {p : Prop} [Decidable p] {v w : Violation} :
    require p v = .error w ↔ ¬p ∧ v = w := by
  unfold require; split <;> simp_all

@[simp] theorem readReg_written {α : Type} (n : RegName) (v : α) : readReg n (.written v) = .ok v := rfl

@[simp] theorem readReg_unwritten {α : Type} (n : RegName) :
    readReg n (.unwritten : ConfigReg α) = .error (.unwrittenState n) := rfl

theorem readReg_eq_ok {α : Type} {n : RegName} {r : ConfigReg α} {v : α} :
    readReg n r = .ok v ↔ r = .written v := by
  cases r <;> simp [readReg]

theorem readReg_eq_error {α : Type} {n : RegName} {r : ConfigReg α} {v : Violation} :
    readReg n r = .error v ↔ r = .unwritten ∧ v = .unwrittenState n := by
  cases r <;> simp [readReg, eq_comm]

theorem checkOrder_eq_ok {w : Window} {u : Unit} :
    checkOrder w = .ok u ↔ w.x0 ≤ w.x1 ∧ w.y0 ≤ w.y1 := require_eq_ok

theorem checkRange_eq_ok {o : Orientation} {w : Window} {u : Unit} :
    checkRange o w = .ok u ↔ w.x1 < logicalW o ∧ w.y1 < logicalH o := require_eq_ok

theorem checkWindow_eq_ok {o : Orientation} {w : Window} {u : Unit} :
    checkWindow o w = .ok u ↔
      (w.x0 ≤ w.x1 ∧ w.y0 ≤ w.y1) ∧ w.x1 < logicalW o ∧ w.y1 < logicalH o := by
  simp [checkWindow, bind_eq_ok, checkOrder_eq_ok, checkRange_eq_ok]

theorem checkEven_eq_ok {m : ColorMode} {j : Nat} {u : Unit} :
    checkEven m j = .ok u ↔ (m = .c12 → j % 2 = 0) := require_eq_ok

theorem checkStream_eq_ok {n k : Nat} {u : Unit} : checkStream n k = .ok u ↔ n ≤ k := require_eq_ok

theorem checkMode_eq_ok {b : Byte} {m : ColorMode} : checkMode b = .ok m ↔ modeOf b = some m := by
  unfold checkMode; split <;> simp_all

theorem checkOrientation_eq_ok {b : Byte} {o : Orientation} :
    checkOrientation b = .ok o ↔ orientOf b = some o := by
  unfold checkOrientation; split <;> simp_all

theorem checkFont_eq_ok {p : Params} {f : Byte} {t : FontTable} :
    checkFont p f = .ok t ↔ fontOf p f = some t := by
  unfold checkFont; split <;> simp_all

/-- The active depth of a pixel operation, and every precondition it passed. -/
theorem checkPixels_eq_ok {s : State} {w : Window} {m : ColorMode} :
    checkPixels s w = .ok m ↔ s.cmode = .written m ∧ ∃ o, s.orient = .written o ∧
      ((w.x0 ≤ w.x1 ∧ w.y0 ≤ w.y1) ∧ w.x1 < logicalW o ∧ w.y1 < logicalH o) ∧
      (m = .c12 → pixelCount w % 2 = 0) := by
  simp only [checkPixels, readPixelRegs, bind_eq_ok, readReg_eq_ok, checkWindow_eq_ok,
    checkEven_eq_ok, pure_eq_ok, Except.ok.injEq]
  constructor
  · rintro ⟨a, ⟨m', hm, o, ho, rfl⟩, ⟨⟩, hw, ⟨⟩, he, rfl⟩
    exact ⟨hm, o, ho, hw, he⟩
  · rintro ⟨hm, o, ho, hw, he⟩
    exact ⟨_, ⟨m, hm, o, ho, rfl⟩, (), hw, (), he, rfl⟩

/-- The registers of a text operation are all written, and FSIZE names a font. -/
theorem readTextRegs_eq_ok {s : State} {t : TextRegs} :
    readTextRegs s = .ok t ↔ s.cmode = .written t.mode ∧ s.orient = .written t.orient ∧
      (∃ f, s.fsize = .written f ∧ fontOf s.par f = some t.font) ∧
      s.fg = .written t.fg ∧ s.bg = .written t.bg := by
  simp only [readTextRegs, readPixelRegs, bind_eq_ok, readReg_eq_ok, checkFont_eq_ok, pure_eq_ok,
    Except.ok.injEq]
  constructor
  · rintro ⟨_, ⟨m, hm, o, ho, rfl⟩, f, hf, g, hg, b, hb, ft, hft, rfl⟩
    exact ⟨hm, ho, ⟨f, hf, hft⟩, hg, hb⟩
  · rintro ⟨hm, ho, ⟨f, hf, hft⟩, hg, hb⟩
    exact ⟨_, ⟨_, hm, _, ho, rfl⟩, f, hf, _, hg, _, hb, _, hft, rfl⟩

theorem checkGeometry_eq_ok {t : FontTable} {u : Unit} :
    checkGeometry t = .ok u ↔ t.gw.toNat % 2 = 0 ∧ 2 ≤ t.gw.toNat ∧ t.gw.toNat ≤ 8 ∧
      1 ≤ t.gh.toNat ∧ t.gh ≤ t.bpg := require_eq_ok

theorem checkChar_eq_ok {t : FontTable} {c : Byte} {k : Nat} {u : Unit} :
    checkChar t c k = .ok u ↔
      fontBias ≤ c.toNat ∧ (t.bpg = 0#8 ∨ glyphIndex c < glyphCount t) := require_eq_ok

/-- V7 in the terms claims use. -/
theorem checkChar_eq_ok_iff_passes {t : FontTable} {c : Byte} {k : Nat} {u : Unit} :
    checkChar t c k = .ok u ↔ CharPasses t c := by
  rw [checkChar_eq_ok, show glyphCount t = t.bitmap.length / t.bpg.toNat from rfl]
  rfl

/-- V2 of a glyph cell: under every header, one of zeros among them, the cell passes where it ends inside the
extent (log 5). -/
theorem checkRange_glyphWindow {r : TextRegs} {x y : Nat} {u : Unit} :
    checkRange r.orient (glyphWindow r x y) = .ok u ↔
      x + r.font.gw.toNat ≤ logicalW r.orient ∧ y + r.font.gh.toNat ≤ logicalH r.orient := by
  have : 0 < logicalW r.orient ∧ 0 < logicalH r.orient := by cases r.orient <;> decide
  rw [checkRange_eq_ok]
  simp only [glyphWindow, cellWindow]
  omega

/-- Every cell of a run passes PUT_CHAR's preconditions where the run does. -/
theorem checkCells_eq_ok {t : TextRegs} {y : Nat} {cells : List Cell} {k : Nat} {u : Unit} :
    checkCells t y cells k = .ok u ↔ ∀ cell ∈ cells,
      (checkRange t.orient (glyphWindow t cell.2 y) = .ok () ∧
        checkChar t.font cell.1 0 = .ok ()) := by
  induction cells generalizing k with
  | nil => simp [checkCells]
  | cons cell cells ih =>
    obtain ⟨c, cx⟩ := cell
    simp [checkCells, bind_eq_ok, ih, checkRange_eq_ok, checkChar_eq_ok, and_assoc]

/-! ## Glyphs and runs -/

/-- Every row a glyph of legal geometry and index reads lies in its table (R80: "below the table length"). -/
theorem rowAddr_in_table {t : FontTable} {c : Byte} {k r : Nat}
    (hg : checkGeometry t = .ok ()) (hc : checkChar t c k = .ok ()) (hr : r < t.gh.toNat) :
    rowAddr t c r < (fontBytes t).length := by
  rw [checkGeometry_eq_ok] at hg
  rw [checkChar_eq_ok] at hc
  obtain ⟨-, -, -, h1, hb⟩ := hg
  have hb' : t.gh.toNat ≤ t.bpg.toNat := hb
  have hpos : 0 < t.bpg.toNat := by omega
  have hne : t.bpg ≠ 0#8 := by rintro h; simp [h] at hpos
  have hlt := hc.2.resolve_left hne
  unfold glyphCount at hlt
  have := (Nat.lt_div_iff_mul_lt hpos).1 hlt
  have h3 : (fontBytes t).length = t.bitmap.length + 3 := rfl
  simp only [rowAddr, fontHeader, h3] at *
  have : glyphIndex c * t.bpg.toNat + t.bpg.toNat ≤ t.bitmap.length := by
    have h4 := Nat.div_mul_le_self (t.bitmap.length + 3 - 3) t.bpg.toNat
    have h5 := Nat.mul_le_mul_right t.bpg.toNat (Nat.succ_le_of_lt hlt)
    rw [Nat.succ_mul] at h5
    omega
  omega

/-- The glyphs of a run are emitted cell by cell. -/
theorem drawCells_eq_emit (t : TextRegs) (y : Nat) (cells : List Cell) (s : State) :
    State.drawCells t y cells s = s.emit (cells.flatMap fun cell =>
      (.cmd s.par.cmd.caset :: (coordBytes (glyphWindow t cell.2 y).x0 ++
          coordBytes (glyphWindow t cell.2 y).x1).map .dat ++
        .cmd s.par.cmd.paset :: (coordBytes (glyphWindow t cell.2 y).y0 ++
          coordBytes (glyphWindow t cell.2 y).y1).map .dat ++
        .cmd s.par.cmd.ramwr :: (glyphBytes t cell.1).map .dat)) := by
  induction cells generalizing s with
  | nil => simp [State.drawCells]
  | cons cell cells ih =>
    obtain ⟨c, cx⟩ := cell
    rw [State.drawCells, ih]
    simp [State.drawGlyph, State.setWriteWindow, setWindow_eq_emit, cmdByte]

/-- One glyph is one write transfer (R155). -/
theorem drawGlyph_eq_emit (t : TextRegs) (c : Byte) (x y : Nat) (s : State) :
    State.drawGlyph t c x y s = s.emit (glyphTransfer s.par t c x y) := by
  simp [State.drawGlyph, State.setWriteWindow, setWindow_eq_emit, glyphTransfer, writeTransfer,
    windowFrames, glyphWindow, cellWindow, coordBytes, bytes16, cmdByte]

/-- The cells of a run, in closed form (R157: `min(len(cs), (W() - x) / gw)` glyphs). -/
theorem drawRun_eq {gw : Nat} (hg : 1 ≤ gw) (width : Nat) (cs : List Byte) (x : Nat) :
    drawRun gw width cs x =
      ((List.range (min cs.length ((width - x) / gw))).map fun k => (cs.getD k 0#8, x + k * gw),
        x + min cs.length ((width - x) / gw) * gw) := by
  induction cs generalizing x with
  | nil => simp [drawRun]
  | cons c cs ih =>
    by_cases h : x + gw > width
    · have : (width - x) / gw = 0 := Nat.div_eq_of_lt (by omega)
      simp [drawRun, h, this]
    · have h2 : (width - x) / gw = (width - (x + gw)) / gw + 1 := by
        rw [show width - x = (width - (x + gw)) + gw by omega, Nat.add_div_right _ (by omega)]
      simp only [drawRun, h, if_false, ih, List.length_cons, h2, Nat.add_min_add_right]
      simp [List.range_succ_eq_map, Function.comp_def]
      constructor
      · intro a _
        simp [Nat.succ_mul]
        omega
      · rw [Nat.add_mul]
        omega

/-- The padding cells, in closed form (R161), where the fuel suffices. -/
theorem padRun_eq {gw : Nat} (hg : 1 ≤ gw) (width fuel x : Nat) (hf : (width - x) / gw ≤ fuel) :
    padRun gw width fuel x =
      (List.range ((width - x) / gw)).map fun k => (0x20#8, x + k * gw) := by
  induction fuel generalizing x with
  | zero => simp [padRun, Nat.le_zero.1 hf]
  | succ f ih =>
    by_cases h : x + gw ≤ width
    · have h2 : (width - x) / gw = (width - (x + gw)) / gw + 1 := by
        rw [show width - x = (width - (x + gw)) + gw by omega, Nat.add_div_right _ (by omega)]
      rw [h2] at hf ⊢
      simp only [padRun, h, if_true, ih (x + gw) (by omega)]
      simp [List.range_succ_eq_map, Function.comp_def]
      intro a _
      simp [Nat.succ_mul]
      omega
    · have : (width - x) / gw = 0 := Nat.div_eq_of_lt (by omega)
      simp [padRun, h, this]

/-- A run ends where its last cell ends, and every cell of it fits (R157). -/
theorem drawRun_spec (gw width : Nat) (cs : List Byte) (x : Nat) :
    (drawRun gw width cs x).2 = x + (drawRun gw width cs x).1.length * gw ∧
      (∀ cell ∈ (drawRun gw width cs x).1, cell.2 + gw ≤ width) ∧
      (drawRun gw width cs x).1.length ≤ cs.length := by
  induction cs generalizing x with
  | nil => simp [drawRun]
  | cons c cs ih =>
    by_cases h : x + gw > width
    · simp [drawRun, h]
    · obtain ⟨h1, h2, h3⟩ := ih (x + gw)
      simp only [drawRun, h, if_false]
      refine ⟨?_, ?_, by simpa using h3⟩
      · rw [h1, List.length_cons, Nat.succ_mul]; omega
      · intro cell hc
        rcases List.mem_cons.1 hc with rfl | hc
        · simpa using h
        · exact h2 cell hc

/-- The characters of a run are those of the codes that fit, whatever the glyph width (R157). -/
theorem drawRun_mem {gw width : Nat} {cs : List Byte} {x : Nat} {cell : Cell}
    (h : cell ∈ (drawRun gw width cs x).1) :
    (∃ k, cs[k]? = some cell.1 ∧ x + (k + 1) * gw ≤ width) ∧ cell.2 + gw ≤ width := by
  induction cs generalizing x with
  | nil => simp [drawRun] at h
  | cons c cs ih =>
    unfold drawRun at h
    split at h
    · simp at h
    · rcases List.mem_cons.1 h with rfl | h
      · exact ⟨⟨0, rfl, by omega⟩, by dsimp only; omega⟩
      · obtain ⟨⟨k, h1, h2⟩, h3⟩ := ih h
        exact ⟨⟨k + 1, by simpa using h1, by rw [Nat.add_mul (k + 1)]; omega⟩, h3⟩

/-- Where a pad fits after a run, the run drew its whole string (R161). -/
theorem drawRun_end {gw width : Nat} {cs : List Byte} {x : Nat}
    (h : (drawRun gw width cs x).2 + gw ≤ width) :
    (drawRun gw width cs x).2 = x + cs.length * gw := by
  induction cs generalizing x with
  | nil => simp [drawRun]
  | cons c cs ih =>
    unfold drawRun at h ⊢
    split
    · rename_i hc
      rw [if_pos hc] at h
      dsimp only at h
      omega
    · rename_i hc
      rw [if_neg hc] at h
      dsimp only
      rw [ih h, List.length_cons, Nat.add_mul]
      omega

/-- Padding starts only where a pad fits (R161). -/
theorem padRun_start {gw width fuel x : Nat} {cell : Cell} (h : cell ∈ padRun gw width fuel x) :
    x + gw ≤ width := by
  cases fuel with
  | zero => simp [padRun] at h
  | succ f =>
    unfold padRun at h
    split at h
    · assumption
    · simp at h

/-- Every padding glyph is the space and fits (R161). -/
theorem padRun_fits {gw width fuel x : Nat} {cell : Cell}
    (h : cell ∈ padRun gw width fuel x) : cell.1 = 0x20#8 ∧ cell.2 + gw ≤ width := by
  induction fuel generalizing x with
  | zero => simp [padRun] at h
  | succ n ih =>
    unfold padRun at h
    split at h
    · rcases List.mem_cons.1 h with rfl | h
      · exact ⟨rfl, ‹_›⟩
      · exact ih h
    · simp at h

/-- Where every code a string operation draws passes V7, every cell of it passes PUT_CHAR's preconditions, under
any header (R160, R161). -/
theorem checkCells_drawnCells {r : TextRegs} {pad : Bool} {cs : List Byte} {x y k : Nat}
    (h : DrawnCodesPass r pad cs x y) : checkCells r y (drawnCells r pad cs x y) k = .ok () := by
  rw [checkCells_eq_ok]
  intro cell hc
  unfold drawnCells at hc
  split at hc
  · simp at hc
  · have hy : y + r.font.gh.toNat ≤ logicalH r.orient := by omega
    have run : cell ∈ (drawRun r.font.gw.toNat (logicalW r.orient) cs x).1 →
        checkRange r.orient (glyphWindow r cell.2 y) = .ok () ∧
          checkChar r.font cell.1 0 = .ok () := by
      intro hm
      obtain ⟨⟨k, h1, h2⟩, h3⟩ := drawRun_mem hm
      exact ⟨checkRange_glyphWindow.2 ⟨h3, hy⟩,
        checkChar_eq_ok_iff_passes.2 (h.1 k _ h1 ⟨hy, h2⟩)⟩
    unfold stringCells at hc
    dsimp only at hc
    split at hc
    · rename_i hp
      rcases List.mem_append.1 hc with hc | hc
      · exact run hc
      · obtain ⟨hspace, hfit⟩ := padRun_fits hc
        have hstart := padRun_start hc
        refine ⟨checkRange_glyphWindow.2 ⟨hfit, hy⟩, ?_⟩
        rw [hspace]
        refine checkChar_eq_ok_iff_passes.2 (h.2 hp ⟨hy, ?_⟩)
        rw [drawRun_end hstart] at hstart
        rw [Nat.add_mul]
        omega
    · exact run hc

end Sys2Proof.Laws
end

