-- ==== Sys2Proof/Laws/PerInstr.lean ====
section
/-! SUPPORT. One family of facts about every instruction as syntax: the selector and the length of its
request frame are those of its row in spec/opcode_table.json, and a wire row has no frame. -/

namespace Sys2Proof.Laws

/-- The selector byte and the byte count of an instruction's row (30_encoding.md R60, R61). -/
def FrameShape.ofRow : Instr → Option (Byte × Nat)
  | .init _ _ => some (0x00#8, 3)
  | .setColorMode _ => some (0x01#8, 2)
  | .setOrientation _ => some (0x02#8, 2)
  | .getWidth => some (0x03#8, 1)
  | .getHeight => some (0x04#8, 1)
  | .setWindow _ _ _ _ => some (0x10#8, 9)
  | .setWriteWindow _ _ _ _ => some (0x11#8, 9)
  | .setReadWindow _ _ _ _ => some (0x12#8, 9)
  | .fill _ _ _ _ _ => some (0x20#8, 13)
  | .fillFromArray _ _ _ _ => some (0x21#8, 9)
  | .fillFromBuffer _ _ _ _ => some (0x22#8, 9)
  | .setPixel _ _ _ => some (0x23#8, 9)
  | .setPixel16 _ _ _ => some (0x24#8, 7)
  | .readMemory _ _ _ _ => some (0x25#8, 9)
  | .setFont _ => some (0x30#8, 2)
  | .setTextColors _ _ => some (0x31#8, 9)
  | .putChar _ _ _ => some (0x32#8, 6)
  | .putString _ _ _ => some (0x33#8, 7)
  | .putStringClearToEol _ _ _ => some (0x34#8, 7)
  | .putStringCentered _ _ => some (0x35#8, 5)
  | .sleepIn => some (0x40#8, 1)
  | .sleepOut => some (0x41#8, 1)
  | .displayOn => some (0x42#8, 1)
  | .displayOff => some (0x43#8, 1)
  | .idleOn => some (0x44#8, 1)
  | .idleOff => some (0x45#8, 1)
  | .inversionOn => some (0x46#8, 1)
  | .inversionOff => some (0x47#8, 1)
  | .normalMode => some (0x48#8, 1)
  | .partialMode _ _ => some (0x49#8, 5)
  | .gammaSet _ => some (0x4A#8, 2)
  | .teOn _ => some (0x4B#8, 2)
  | .teOff => some (0x4C#8, 1)
  | .scrollArea _ _ => some (0x4D#8, 5)
  | .scrollStart _ => some (0x4E#8, 3)
  | .wirePix12 _ _ => none
  | .wirePix16 _ => none
  | .wirePix18 _ => none
  | .wireCmdSlpin => none
  | .wireCmdSlpout => none
  | .wireCmdDispon => none
  | .wireCmdDispoff => none
  | .wireCmdNoron => none
  | .wireCmdIdmon => none
  | .wireCmdIdmoff => none
  | .wireCmdInvon => none
  | .wireCmdInvoff => none
  | .wireCmdCaset _ _ => none
  | .wireCmdPaset _ _ => none
  | .wireCmdRamwr => none
  | .wireCmdRamrd => none
  | .wireCmdMadctl _ => none
  | .wireCmdColmod _ => none
  | .wireCmdRgbset _ => none
  | .wireCmdPtlon => none
  | .wireCmdPtlar _ _ => none
  | .wireCmdVscrdef _ _ _ => none
  | .wireCmdVscrsadd _ => none
  | .wireCmdGamset _ => none
  | .wireCmdTeon _ => none
  | .wireCmdTeoff => none

/-- The encoder writes the row's selector first and the row's number of bytes. -/
def FrameShape.Statement (i : Instr) : Prop :=
  (encode i).head?.map (fun op => (op, (encode i).length)) = FrameShape.ofRow i

theorem FrameShape.init (tAddr tData : Byte) : FrameShape.Statement (.init tAddr tData) := rfl
theorem FrameShape.setColorMode (mode : Byte) : FrameShape.Statement (.setColorMode mode) := rfl
theorem FrameShape.setOrientation (orient : Byte) :
    FrameShape.Statement (.setOrientation orient) := rfl
theorem FrameShape.getWidth : FrameShape.Statement .getWidth := rfl
theorem FrameShape.getHeight : FrameShape.Statement .getHeight := rfl
theorem FrameShape.setWindow (x0 y0 x1 y1 : Half) :
    FrameShape.Statement (.setWindow x0 y0 x1 y1) := rfl
theorem FrameShape.setWriteWindow (x0 y0 x1 y1 : Half) :
    FrameShape.Statement (.setWriteWindow x0 y0 x1 y1) := rfl
theorem FrameShape.setReadWindow (x0 y0 x1 y1 : Half) :
    FrameShape.Statement (.setReadWindow x0 y0 x1 y1) := rfl
theorem FrameShape.fill (x0 y0 x1 y1 : Half) (color : Colour) :
    FrameShape.Statement (.fill x0 y0 x1 y1 color) := rfl
theorem FrameShape.fillFromArray (x0 y0 x1 y1 : Half) :
    FrameShape.Statement (.fillFromArray x0 y0 x1 y1) := rfl
theorem FrameShape.fillFromBuffer (x0 y0 x1 y1 : Half) :
    FrameShape.Statement (.fillFromBuffer x0 y0 x1 y1) := rfl
theorem FrameShape.setPixel (x y : Half) (color : Colour) :
    FrameShape.Statement (.setPixel x y color) := rfl
theorem FrameShape.setPixel16 (x y : Half) (rgb565 : Half) :
    FrameShape.Statement (.setPixel16 x y rgb565) := rfl
theorem FrameShape.readMemory (x0 y0 x1 y1 : Half) :
    FrameShape.Statement (.readMemory x0 y0 x1 y1) := rfl
theorem FrameShape.setFont (fsize : Byte) : FrameShape.Statement (.setFont fsize) := rfl
theorem FrameShape.setTextColors (fg bg : Colour) :
    FrameShape.Statement (.setTextColors fg bg) := rfl
theorem FrameShape.putChar (c : Byte) (x y : Half) : FrameShape.Statement (.putChar c x y) := rfl
theorem FrameShape.putString (x y len : Half) : FrameShape.Statement (.putString x y len) := rfl
theorem FrameShape.putStringClearToEol (x y len : Half) :
    FrameShape.Statement (.putStringClearToEol x y len) := rfl
theorem FrameShape.putStringCentered (y len : Half) :
    FrameShape.Statement (.putStringCentered y len) := rfl
theorem FrameShape.sleepIn : FrameShape.Statement .sleepIn := rfl
theorem FrameShape.sleepOut : FrameShape.Statement .sleepOut := rfl
theorem FrameShape.displayOn : FrameShape.Statement .displayOn := rfl
theorem FrameShape.displayOff : FrameShape.Statement .displayOff := rfl
theorem FrameShape.idleOn : FrameShape.Statement .idleOn := rfl
theorem FrameShape.idleOff : FrameShape.Statement .idleOff := rfl
theorem FrameShape.inversionOn : FrameShape.Statement .inversionOn := rfl
theorem FrameShape.inversionOff : FrameShape.Statement .inversionOff := rfl
theorem FrameShape.normalMode : FrameShape.Statement .normalMode := rfl
theorem FrameShape.partialMode (ya yb : Half) : FrameShape.Statement (.partialMode ya yb) := rfl
theorem FrameShape.gammaSet (value : Byte) : FrameShape.Statement (.gammaSet value) := rfl
theorem FrameShape.teOn (value : Byte) : FrameShape.Statement (.teOn value) := rfl
theorem FrameShape.teOff : FrameShape.Statement .teOff := rfl
theorem FrameShape.scrollArea (ya yb : Half) : FrameShape.Statement (.scrollArea ya yb) := rfl
theorem FrameShape.scrollStart (ya : Half) : FrameShape.Statement (.scrollStart ya) := rfl
theorem FrameShape.wirePix12 (p0 p1 : Colour) : FrameShape.Statement (.wirePix12 p0 p1) := rfl
theorem FrameShape.wirePix16 (p : Colour) : FrameShape.Statement (.wirePix16 p) := rfl
theorem FrameShape.wirePix18 (p : Colour) : FrameShape.Statement (.wirePix18 p) := rfl
theorem FrameShape.wireCmdSlpin : FrameShape.Statement .wireCmdSlpin := rfl
theorem FrameShape.wireCmdSlpout : FrameShape.Statement .wireCmdSlpout := rfl
theorem FrameShape.wireCmdDispon : FrameShape.Statement .wireCmdDispon := rfl
theorem FrameShape.wireCmdDispoff : FrameShape.Statement .wireCmdDispoff := rfl
theorem FrameShape.wireCmdNoron : FrameShape.Statement .wireCmdNoron := rfl
theorem FrameShape.wireCmdIdmon : FrameShape.Statement .wireCmdIdmon := rfl
theorem FrameShape.wireCmdIdmoff : FrameShape.Statement .wireCmdIdmoff := rfl
theorem FrameShape.wireCmdInvon : FrameShape.Statement .wireCmdInvon := rfl
theorem FrameShape.wireCmdInvoff : FrameShape.Statement .wireCmdInvoff := rfl
theorem FrameShape.wireCmdCaset (x0 x1 : Half) : FrameShape.Statement (.wireCmdCaset x0 x1) := rfl
theorem FrameShape.wireCmdPaset (y0 y1 : Half) : FrameShape.Statement (.wireCmdPaset y0 y1) := rfl
theorem FrameShape.wireCmdRamwr : FrameShape.Statement .wireCmdRamwr := rfl
theorem FrameShape.wireCmdRamrd : FrameShape.Statement .wireCmdRamrd := rfl
theorem FrameShape.wireCmdMadctl (o : Orientation) : FrameShape.Statement (.wireCmdMadctl o) := rfl
theorem FrameShape.wireCmdColmod (m : ColorMode) : FrameShape.Statement (.wireCmdColmod m) := rfl
theorem FrameShape.wireCmdRgbset (t : LutTable) : FrameShape.Statement (.wireCmdRgbset t) := rfl
theorem FrameShape.wireCmdPtlon : FrameShape.Statement .wireCmdPtlon := rfl
theorem FrameShape.wireCmdPtlar (y0 y1 : Half) : FrameShape.Statement (.wireCmdPtlar y0 y1) := rfl
theorem FrameShape.wireCmdVscrdef (top height bottom : Half) :
    FrameShape.Statement (.wireCmdVscrdef top height bottom) := rfl
theorem FrameShape.wireCmdVscrsadd (position : Half) :
    FrameShape.Statement (.wireCmdVscrsadd position) := rfl
theorem FrameShape.wireCmdGamset (value : Byte) : FrameShape.Statement (.wireCmdGamset value) := rfl
theorem FrameShape.wireCmdTeon (mode : Byte) : FrameShape.Statement (.wireCmdTeon mode) := rfl
theorem FrameShape.wireCmdTeoff : FrameShape.Statement .wireCmdTeoff := rfl

end Sys2Proof.Laws
end

