-- ==== Sys2Proof/Tests/Slice0.lean ====
section
/-! SUPPORT. The model's own tests. Expected values are the frames of spec/opcode_table.json and the vectors of
spec/95_test_vectors.md, whose numbers (T42-1, ...) stand before each test. The command bytes of the test
machine are arbitrary distinct bytes: the vectors keep them symbolic. -/

namespace Sys2Proof.Tests

open Sys2Proof Sys2Proof.Machine

/-! ## The test machine -/

/-- The test font of 95_test_vectors.md section 2.4: `04 02 02 FF FF 00 00 A0 50 F0 90`, selector 1. -/
def testFont : FontTable :=
  ⟨1, 4, 2, 2, [0xFF#8, 0xFF#8, 0x00#8, 0x00#8, 0xA0#8, 0x50#8, 0xF0#8, 0x90#8]⟩

/-- Parameters for tests. -/
def testPar : Params where
  cmd := ⟨0xC0, 0xC1, 0xC2, 0xC3, 0xC4, 0xC5, 0xC6, 0xC7, 0xC8, 0xC9, 0xCA, 0xCB, 0xCC, 0xCD, 0xCE, 0xCF,
    0xD0, 0xD1, 0xD2, 0xD3, 0xD4, 0xD5, 0xD6⟩
  pixfmt := ⟨0xE0, 0xE1, 0xE2⟩
  madctl := ⟨0xE4, 0xE5, 0xE6, 0xE7⟩
  lut12 := Vector.replicate 128 0x12
  lut16 := Vector.replicate 128 0x16
  fonts := [testFont]
  delays := ⟨10, 20, 30, 40⟩
  statusOk := 1

/-- A machine after reset with the test parameters. -/
def fresh : State := { State.reset with par := testPar }

/-- Depth and orientation written. -/
def pixelState (m : ColorMode) (o : Orientation) : State :=
  { fresh with cmode := .written m, orient := .written o }

/-- All five registers written, test font active, and the given IN stream. -/
def textState (m : ColorMode) (fg bg : Rgb) (cs : List Byte) : State :=
  { pixelState m .portrait with
    fsize := .written 1, fg := .written fg, bg := .written bg, inStream := .bytes cs }

/-- White on black at 12 bits, as in T43-19 to T43-33. -/
def stringState (cs : List Byte) : State := textState .c12 0xFFFFFF 0 cs

/-- The trace after an operation. -/
def traceOf : Result → Option (List Event)
  | .next t => some t.trace
  | _ => none

/-- The refusal mark after an operation. -/
def refusalsOf : Result → Option (List Violation)
  | .next t => some t.refusals
  | _ => none

/-- The OUT stream after an operation. -/
def outOf : Result → Option (List Byte)
  | .next t => some t.out
  | _ => none

/-- The responses after an operation. -/
def responsesOf : Result → Option (List Response)
  | .next t => some t.responses
  | _ => none

/-- One field of the next state. -/
def fieldOf {α : Type} (f : State → α) : Result → Option α
  | .next t => some (f t)
  | _ => none

/-- The write header of a window with coordinates below 256 (R111) and the data bytes after it. -/
def written (x0 x1 y0 y1 : Byte) (bs : List Byte) : List Event :=
  [.cmd 0xC9, .dat 0, .dat x0, .dat 0, .dat x1, .cmd 0xCA, .dat 0, .dat y0, .dat 0, .dat y1,
    .cmd 0xCB] ++ bs.map .dat

/-! ## WellFormed -/

/-- An ill-formed term for the one check: a wire row has no request frame. -/
theorem test_wire_row_is_ill_formed : ¬ (Instr.wireCmdSlpin).WellFormed := by decide
theorem test_request_is_well_formed : (Instr.sleepIn).WellFormed := by decide
theorem test_wire_row_has_no_frame : encode (.wirePix12 0 0) = [] := by decide

/-! ## Decoding: one table word per request row, written from the row's match and fields -/

theorem test_decode_init : decodeTableWord 24 0x00A1B2 = some (.init 0xA1#8 0xB2#8) := by decide
theorem test_decode_setColorMode :
    decodeTableWord 16 0x01A1 = some (.setColorMode 0xA1#8) := by decide
theorem test_decode_setOrientation :
    decodeTableWord 16 0x02A1 = some (.setOrientation 0xA1#8) := by decide
theorem test_decode_getWidth : decodeTableWord 8 0x03 = some .getWidth := by decide
theorem test_decode_getHeight : decodeTableWord 8 0x04 = some .getHeight := by decide
theorem test_decode_setWindow :
    decodeTableWord 72 0x100102030485060788 = some (.setWindow 0x102#16 0x304#16 0x8506#16 0x788#16) := by
  decide
theorem test_decode_setWriteWindow :
    decodeTableWord 72 0x110102030485060788 = some (.setWriteWindow 0x102#16 0x304#16 0x8506#16 0x788#16) := by
  decide
theorem test_decode_setReadWindow :
    decodeTableWord 72 0x120102030485060788 = some (.setReadWindow 0x102#16 0x304#16 0x8506#16 0x788#16) := by
  decide
theorem test_decode_fill :
    decodeTableWord 104 0x20010203048506078891A2B3C4 = some (.fill 0x102#16 0x304#16 0x8506#16 0x788#16 0x91A2B3C4#32) := by
  decide
theorem test_decode_fillFromArray :
    decodeTableWord 72 0x210102030485060788 = some (.fillFromArray 0x102#16 0x304#16 0x8506#16 0x788#16) := by
  decide
theorem test_decode_fillFromBuffer :
    decodeTableWord 72 0x220102030485060788 = some (.fillFromBuffer 0x102#16 0x304#16 0x8506#16 0x788#16) := by
  decide
theorem test_decode_setPixel :
    decodeTableWord 72 0x230102030491A2B3C4 = some (.setPixel 0x102#16 0x304#16 0x91A2B3C4#32) := by
  decide
theorem test_decode_setPixel16 :
    decodeTableWord 56 0x24010203048506 = some (.setPixel16 0x102#16 0x304#16 0x8506#16) := by
  decide
theorem test_decode_readMemory :
    decodeTableWord 72 0x250102030485060788 = some (.readMemory 0x102#16 0x304#16 0x8506#16 0x788#16) := by
  decide
theorem test_decode_setFont : decodeTableWord 16 0x30A1 = some (.setFont 0xA1#8) := by decide
theorem test_decode_setTextColors :
    decodeTableWord 72 0x3191A2B3C415263748 = some (.setTextColors 0x91A2B3C4#32 0x15263748#32) := by
  decide
theorem test_decode_putChar :
    decodeTableWord 48 0x32A103048506 = some (.putChar 0xA1#8 0x304#16 0x8506#16) := by
  decide
theorem test_decode_putString :
    decodeTableWord 56 0x33010203048506 = some (.putString 0x102#16 0x304#16 0x8506#16) := by
  decide
theorem test_decode_putStringClearToEol :
    decodeTableWord 56 0x34010203048506 = some (.putStringClearToEol 0x102#16 0x304#16 0x8506#16) := by
  decide
theorem test_decode_putStringCentered :
    decodeTableWord 40 0x3501020304 = some (.putStringCentered 0x102#16 0x304#16) := by
  decide
theorem test_decode_sleepIn : decodeTableWord 8 0x40 = some .sleepIn := by decide
theorem test_decode_sleepOut : decodeTableWord 8 0x41 = some .sleepOut := by decide
theorem test_decode_displayOn : decodeTableWord 8 0x42 = some .displayOn := by decide
theorem test_decode_displayOff : decodeTableWord 8 0x43 = some .displayOff := by decide
theorem test_decode_idleOn : decodeTableWord 8 0x44 = some .idleOn := by decide
theorem test_decode_idleOff : decodeTableWord 8 0x45 = some .idleOff := by decide
theorem test_decode_inversionOn : decodeTableWord 8 0x46 = some .inversionOn := by decide
theorem test_decode_inversionOff : decodeTableWord 8 0x47 = some .inversionOff := by decide
theorem test_decode_normalMode : decodeTableWord 8 0x48 = some .normalMode := by decide
theorem test_decode_partialMode :
    decodeTableWord 40 0x4901020304 = some (.partialMode 0x102#16 0x304#16) := by
  decide
theorem test_decode_gammaSet : decodeTableWord 16 0x4AA1 = some (.gammaSet 0xA1#8) := by decide
theorem test_decode_teOn : decodeTableWord 16 0x4BA1 = some (.teOn 0xA1#8) := by decide
theorem test_decode_teOff : decodeTableWord 8 0x4C = some .teOff := by decide
theorem test_decode_scrollArea :
    decodeTableWord 40 0x4D01020304 = some (.scrollArea 0x102#16 0x304#16) := by
  decide
theorem test_decode_scrollStart :
    decodeTableWord 24 0x4E0102 = some (.scrollStart 0x102#16) := by decide

/-- R73 and section 2.7: unassigned selectors. -/
theorem test_decode_unassigned : decodeFrame [0x05#8] = .error (.unassigned 0x05#8) ∧
    decodeFrame [0x4F#8] = .error (.unassigned 0x4F#8) ∧
    decodeFrame [0xFF#8] = .error (.unassigned 0xFF#8) := by decide
/-- Log 10: a frame of another length than its format. -/
theorem test_decode_wrong_length : decodeFrame [0x01#8] = .error (.wrongLength 0x01#8 2 1) ∧
    decodeFrame [0x40#8, 0x00#8] = .error (.wrongLength 0x40#8 1 2) ∧
    decodeFrame [] = .error .empty := by decide

/-! ## The codec, section 2.1 -/

/-- E3 and the pair list: the order of the two pixels matters. -/
theorem test_enc12 : enc12 0xF08020 0x40C0A0 = [0xF8, 0x24, 0xCA] ∧
    enc12 0x40C0A0 0xF08020 = [0x4C, 0xAF, 0x82] ∧
    enc12 0x123456 0xABCDEF = [0x13, 0x5A, 0xCE] := by decide
theorem test_enc16 : enc16 0x123456 = [0x11, 0xAA] ∧ enc16 0xABCDEF = [0xAE, 0x7D] ∧
    enc16 0x080408 = [0x08, 0x21] ∧ enc16 0x070307 = [0x00, 0x00] := by decide
theorem test_enc18 : enc18 0x123456 = [0x10, 0x34, 0x54] ∧ enc18 0xFF123456 = [0x10, 0x34, 0x54] ∧
    enc18 0xABCDEF = [0xA8, 0xCC, 0xEC] := by decide
theorem test_encPixels_c12 : encPixels .c12 [0xF08020, 0x40C0A0, 0x123456, 0xABCDEF] =
    .ok [0xF8, 0x24, 0xCA, 0x13, 0x5A, 0xCE] := by decide
theorem test_encPixels_c16_odd : encPixels .c16 [0xF08020, 0x40C0A0, 0x123456] =
    .ok [0xF4, 0x04, 0x46, 0x14, 0x11, 0xAA] := by decide
theorem test_encPixels_c12_odd : encPixels .c12 [0, 0, 0] = .error (.oddCount12 3) := by decide

/-- T40-1: 131 events, format first, then the table of the depth. -/
theorem test_setColorMode_12 : traceOf (exec (.setColorMode 0x0C) fresh) =
    some ([.cmd 0xD6, .dat 0xE0, .cmd 0xCC] ++ List.replicate 128 (.dat 0x12)) := by
  decide +kernel
/-- T40-6. -/
theorem test_setColorMode_bad : refusalsOf (exec (.setColorMode 0x05) fresh) =
    some [.badMode 0x05] := by decide

/-! ## Addressing, section 2.2 -/

/-- T41-1. -/
theorem test_setWindow : traceOf (exec (.setWindow 0 0 175 207) (pixelState .c16 .portrait)) =
    some [.cmd 0xC9, .dat 0, .dat 0, .dat 0, .dat 0xAF, .cmd 0xCA, .dat 0, .dat 0, .dat 0,
      .dat 0xCF] := by decide
/-- T41-11: the high coordinate byte counts. -/
theorem test_setWindow_range : refusalsOf (exec (.setWindow 0x100 0 0x100 0)
    (pixelState .c16 .portrait)) = some [.windowRange ⟨256, 0, 256, 0⟩ 176 208] := by decide
/-- T41-2. -/
theorem test_setWriteWindow : traceOf (exec (.setWriteWindow 10 20 11 21)
    (pixelState .c16 .portrait)) = some (written 0x0A 0x0B 0x14 0x15 []) := by decide
/-- T41-8. -/
theorem test_setWriteWindow_order : refusalsOf (exec (.setWriteWindow 0 9 0 8)
    (pixelState .c16 .portrait)) = some [.windowOrder ⟨0, 9, 0, 8⟩] := by decide
/-- T41-3: no read event. -/
theorem test_setReadWindow : traceOf (exec (.setReadWindow 5 7 5 7) (pixelState .c16 .portrait)) =
    some [.cmd 0xC9, .dat 0, .dat 5, .dat 0, .dat 5, .cmd 0xCA, .dat 0, .dat 7, .dat 0, .dat 7,
      .cmd 0xCD] := by decide
/-- T41-12. -/
theorem test_setReadWindow_unwritten : refusalsOf (exec (.setReadWindow 0 0 1 1) fresh) =
    some [.unwrittenState .orient] := by decide
/-- T41-14. -/
theorem test_setOrientation : traceOf (exec (.setOrientation 1) fresh) =
    some [.cmd 0xD2, .dat 0xE5] := by decide
/-- T41-17. -/
theorem test_setOrientation_bad : refusalsOf (exec (.setOrientation 4) fresh) =
    some [.badOrient 4] := by decide
/-- E5. -/
theorem test_getWidth : responsesOf (exec .getWidth (pixelState .c16 .landscapeReversed)) =
    some [.value 208] := by decide
/-- T41-18. -/
theorem test_getWidth_unwritten : refusalsOf (exec .getWidth fresh) =
    some [.unwrittenState .orient] := by decide
/-- E5. -/
theorem test_getHeight : responsesOf (exec .getHeight (pixelState .c16 .landscapeReversed)) =
    some [.value 176] := by decide

/-! ## Drawing, section 2.3 -/

/-- T42-18: odd width, even height at 12 bits. -/
theorem test_fill_c12 : traceOf (exec (.fill 0 0 2 1 0x123456) (pixelState .c12 .portrait)) =
    some (written 0 2 0 1 [0x13, 0x51, 0x35, 0x13, 0x51, 0x35, 0x13, 0x51, 0x35]) := by decide
/-- T60-8: V2 is reported before V3. -/
theorem test_fill_order : refusalsOf (exec (.fill 174 0 176 0 0) (pixelState .c12 .portrait)) =
    some [.windowRange ⟨174, 0, 176, 0⟩ 176 208] := by decide
/-- T42-13. -/
theorem test_fillFromArray : traceOf (exec (.fillFromArray 0 0 1 0)
    { pixelState .c12 .portrait with inStream := .colours [0xF08020, 0x40C0A0] }) =
    some (written 0 1 0 0 [0xF8, 0x24, 0xCA]) := by decide
/-- T42-8. -/
theorem test_fillFromArray_short : refusalsOf (exec (.fillFromArray 0 0 1 0)
    { pixelState .c16 .portrait with inStream := .colours [0xF08020] }) =
    some [.streamLength 2 1] := by decide
/-- T42-26: raw bytes are not masked. -/
theorem test_fillFromBuffer : traceOf (exec (.fillFromBuffer 0 0 0 0)
    { pixelState .c18 .portrait with inStream := .bytes [0xFF, 0xFF, 0xFF, 0x01] }) =
    some (written 0 0 0 0 [0xFF, 0xFF, 0xFF]) := by decide
/-- T42-9. -/
theorem test_fillFromBuffer_short : refusalsOf (exec (.fillFromBuffer 0 0 1 0)
    { pixelState .c16 .portrait with inStream := .bytes [0xAB, 0xCD, 0xEF] }) =
    some [.streamLength 4 3] := by decide
/-- T42-23. -/
theorem test_setPixel : traceOf (exec (.setPixel 5 7 0x123456) (pixelState .c18 .portrait)) =
    some (written 5 5 7 7 [0x10, 0x34, 0x54]) := by decide
/-- T42-19. -/
theorem test_setPixel_c12 : refusalsOf (exec (.setPixel 5 7 0x123456) (pixelState .c12 .portrait)) =
    some [.oddCount12 1] := by decide
/-- T42-3. -/
theorem test_setPixel16 : traceOf (exec (.setPixel16 5 7 0x11AA) (pixelState .c16 .portrait)) =
    some (written 5 5 7 7 [0x11, 0xAA]) := by decide
/-- T60-10: V2 is reported before V10. -/
theorem test_setPixel16_order : refusalsOf (exec (.setPixel16 176 0 0)
    (pixelState .c18 .portrait)) = some [.windowRange ⟨176, 0, 176, 0⟩ 176 208] := by decide
/-- T42-6: the dummy is in the trace and not in the OUT stream. -/
theorem test_readMemory_out : outOf (exec (.readMemory 0 0 1 0)
    { pixelState .c16 .portrait with answers := [0x00, 0xF4, 0x04, 0x46, 0x14, 0x99] }) =
    some [0xF4, 0x04, 0x46, 0x14] := by decide
/-- T42-7. -/
theorem test_readMemory_trace : traceOf (exec (.readMemory 9 9 9 9)
    { pixelState .c16 .portrait with answers := [0xEE, 0x12, 0x34] }) =
    some [.cmd 0xC9, .dat 0, .dat 9, .dat 0, .dat 9, .cmd 0xCA, .dat 0, .dat 9, .dat 0, .dat 9,
      .cmd 0xCD, .rdd 0xEE, .rdd 0x12, .rdd 0x34] := by decide
/-- R76 and E8: clearing the screen in landscape is a fill of 208 by 176. -/
theorem test_clearScreen : clearScreen .landscape 0xF08020 = .fill 0 0 207 175 0xF08020 := by decide

/-! ## Text, section 2.4 -/

/-- T43-1. -/
theorem test_setFont : fieldOf State.fsize (exec (.setFont 1) fresh) = some (.written 1) := by decide
/-- T43-2. -/
theorem test_setFont_bad : refusalsOf (exec (.setFont 2) fresh) = some [.badFont 2] := by decide
/-- T43-4: bits [31:24] dropped. -/
theorem test_setTextColors : fieldOf (fun t => (t.fg, t.bg))
    (exec (.setTextColors 0xAA123456 0xFF000001) fresh) =
    some (.written 0x123456, .written 0x000001) := by decide
/-- T43-7: the bottom-right cell, both colours visible. -/
theorem test_putChar_corner : traceOf (exec (.putChar 0x22 172 206)
    (textState .c18 0xF08020 0x40C0A0 [])) =
    some (written 0xAC 0xAF 0xCE 0xCF [0xF0, 0x80, 0x20, 0xF0, 0x80, 0x20, 0xF0, 0x80, 0x20, 0xF0,
      0x80, 0x20, 0xF0, 0x80, 0x20, 0x40, 0xC0, 0xA0, 0x40, 0xC0, 0xA0, 0xF0, 0x80, 0x20]) := by
  decide
/-- T43-20: the third character does not fit; all three are consumed. -/
theorem test_putString : fieldOf (fun t => (t.trace, t.inStream))
    (exec (.putString 168 0 3) (stringState [0x21, 0x22, 0x21, 0x77])) =
    some (written 0xA8 0xAB 0 1 [0xFF, 0xF0, 0x00, 0xFF, 0xF0, 0x00, 0x00, 0x0F, 0xFF, 0x00, 0x0F,
      0xFF] ++ written 0xAC 0xAF 0 1 [0xFF, 0xFF, 0xFF, 0xFF, 0xFF, 0xFF, 0xFF, 0xF0, 0x00, 0x00,
      0x0F, 0xFF], .bytes [0x77]) := by decide
/-- T43-29: one character and two padding glyphs. -/
theorem test_putStringClearToEol : traceOf
    (exec (.putStringClearToEol 164 0 1) (stringState [0x21])) =
    some (written 0xA4 0xA7 0 1 [0xFF, 0xF0, 0x00, 0xFF, 0xF0, 0x00, 0x00, 0x0F, 0xFF, 0x00, 0x0F,
      0xFF] ++ written 0xA8 0xAB 0 1 (List.replicate 12 0) ++
      written 0xAC 0xAF 0 1 (List.replicate 12 0)) := by decide
/-- T43-31: no room for a padding glyph. -/
theorem test_putStringClearToEol_edge : (traceOf
    (exec (.putStringClearToEol 170 0 1) (stringState [0x21]))).map List.length = some 23 := by
  decide
/-- T43-33: cells at x = 82, 86, 90. -/
theorem test_putStringCentered : (traceOf (exec (.putStringCentered 10 3)
    (stringState [0x21, 0x22, 0x21]))).map (fun es => (es.length, es.take 11)) =
    some (69, written 0x52 0x55 0x0A 0x0B []) := by decide
/-- T43-22. -/
theorem test_putStringCentered_char : refusalsOf (exec (.putStringCentered 0 1)
    (stringState [0x7F])) = some [.charRange 0x7F 0] := by decide
/-- T43-28: the height test comes before any character is looked up. T43-27: V9. R217: V7 is reported before V9. -/
theorem test_putString_refusals :
    fieldOf (fun t => (t.trace, t.refusals)) (exec (.putString 0 207 1) (stringState [0x7F])) =
      some ([], []) ∧
    refusalsOf (exec (.putString 0 0 2) (stringState [0x21])) = some [.streamLength 2 1] ∧
    refusalsOf (exec (.putString 0 0 2) (stringState [0x7F])) = some [.charRange 0x7F 0] := by decide
/-- The test machine with another font header. -/
def headerState (gw gh bpg : Byte) (cs : List Byte) : State := { stringState cs with
  par := { testPar with fonts := [⟨1, gw, gh, bpg, List.replicate 8 0⟩] } }
/-- T43-17: the headers that V8 excludes. T60-11: V2 is reported before V7. -/
theorem test_putChar_refusals :
    refusalsOf (exec (.putChar 0x20 0 0) (headerState 5 2 2 [])) = some [.glyphGeometry 5 2 2] ∧
    refusalsOf (exec (.putChar 0x20 0 0) (headerState 10 2 2 [])) = some [.glyphGeometry 10 2 2] ∧
    refusalsOf (exec (.putChar 0x20 0 0) (headerState 4 3 2 [])) = some [.glyphGeometry 4 3 2] ∧
    refusalsOf (exec (.putChar 0x20 0 0) (headerState 0 2 2 [])) = some [.glyphGeometry 0 2 2] ∧
    refusalsOf (exec (.putChar 0x20 0 0) (headerState 4 0 2 [])) = some [.glyphGeometry 4 0 2] ∧
    refusalsOf (exec (.putChar 0x7F 175 0) (stringState [])) =
      some [.windowRange ⟨175, 0, 178, 1⟩ 176 208] := by decide

/-! ## Mode and power, section 2.5 -/

theorem test_sleepIn : traceOf (exec .sleepIn fresh) = some [.cmd 0xC0] := by decide
theorem test_sleepOut : traceOf (exec .sleepOut fresh) = some [.cmd 0xC1, .dly 30] := by decide
theorem test_displayOn : traceOf (exec .displayOn fresh) = some [.cmd 0xC8] := by decide
theorem test_displayOff : traceOf (exec .displayOff fresh) = some [.cmd 0xC7] := by decide
theorem test_idleOn : traceOf (exec .idleOn fresh) = some [.cmd 0xD5] := by decide
theorem test_idleOff : traceOf (exec .idleOff fresh) = some [.cmd 0xD4] := by decide
theorem test_inversionOn : traceOf (exec .inversionOn fresh) = some [.cmd 0xC5] := by decide
theorem test_inversionOff : traceOf (exec .inversionOff fresh) = some [.cmd 0xC4] := by decide
theorem test_normalMode : traceOf (exec .normalMode fresh) = some [.cmd 0xC3] := by decide
theorem test_teOff : traceOf (exec .teOff fresh) = some [.cmd 0xD0] := by decide
/-- T44-11. -/
theorem test_partialMode : traceOf (exec (.partialMode 10 100) fresh) =
    some [.cmd 0xC2, .cmd 0xCE, .dat 0, .dat 0x0A, .dat 0, .dat 0x64] := by decide
/-- T44-14. -/
theorem test_partialMode_range : refusalsOf (exec (.partialMode 0 208) fresh) =
    some [.rowRange [0, 208]] := by decide
/-- T44-16. -/
theorem test_gammaSet : traceOf (exec (.gammaSet 0xFF) fresh) = some [.cmd 0xC6, .dat 0xFF] := by decide
/-- T44-17. -/
theorem test_teOn : traceOf (exec (.teOn 0) fresh) = some [.cmd 0xD1, .dat 0] := by decide
/-- E6, T44-18. -/
theorem test_scrollArea : traceOf (exec (.scrollArea 20 50) fresh) =
    some [.cmd 0xCF, .dat 0, .dat 0x14, .dat 0, .dat 0x32, .dat 0, .dat 0x8A] := by decide
/-- T44-23: the sum does not wrap. -/
theorem test_scrollArea_sum : refusalsOf (exec (.scrollArea 0xFFFF 0xFFFF) fresh) =
    some [.scrollRange 0xFFFF 0xFFFF] := by decide
/-- T44-25. -/
theorem test_scrollStart : traceOf (exec (.scrollStart 207) fresh) =
    some [.cmd 0xD3, .dat 0, .dat 0xCF] := by decide
/-- T44-26. -/
theorem test_scrollStart_range : refusalsOf (exec (.scrollStart 208) fresh) =
    some [.rowRange [208]] := by decide
/-- T44-27. -/
theorem test_init : fieldOf (fun t => (t.trace, t.responses)) (exec (.init 0x7F 0x03) fresh) =
    some ([.rst .assert, .dly 10, .rst .release, .dly 20, .cmd 0xC1, .dly 30,
      .cmd 0xC4, .cmd 0xD4, .cmd 0xC3, .dly 40, .cmd 0xC8], [.status 1]) := by decide

/-! ## Wire rows -/

theorem test_wireCmdCaset : traceOf (exec (.wireCmdCaset 0x0102 0x0304) fresh) =
    some [.cmd 0xC9, .dat 1, .dat 2, .dat 3, .dat 4] := by decide
theorem test_wirePix12 : traceOf (exec (.wirePix12 0xF08020 0x40C0A0) fresh) =
    some [.dat 0xF8, .dat 0x24, .dat 0xCA] := by decide

/-! ## Steps -/

/-- A refusal does not end the run (P2, requests 5 and 7): the mark stays, the next request runs. -/
theorem test_run_after_refusal : fieldOf (fun t => (t.refusals, t.responses, t.trace))
    (Sys2Proof.core.run 2 { pixelState .c12 .landscape with requests :=
      [⟨[0x23, 0, 0, 0, 0, 0, 0xFF, 0xFF, 0xFF], .bytes []⟩, ⟨[0x03], .bytes []⟩] }) =
    some ([.oddCount12 1], [.value 208], []) := by decide
/-- A table word runs as the first request after reset. -/
theorem test_fetch_word : step (State.reset.withFetchWord 24 0x000000) =
    exec (.init 0 0) State.reset := rfl
/-- A selector alone is completed with zero operand bytes. -/
theorem test_fetch_short_word : tableFrame 8 0x4E = [0x4E, 0, 0] := by decide

/-! ## Witnesses: for each statement with hypotheses, values that meet them, at the ends of their ranges -/

/-- The test machine with one request issued. -/
def script (frame : List Byte) : State := { fresh with requests := [⟨frame, .bytes []⟩] }

/-- All five registers written but BG. -/
def noBg : State := { stringState [] with bg := .unwritten }

/-- What a text operation reads in `stringState`. -/
def stringRegs : TextRegs := ⟨.c12, .portrait, testFont, 0xFFFFFF, 0⟩

/-- What a text operation reads in `headerState gw gh bpg`. -/
def headerRegs (gw gh bpg : Byte) : TextRegs :=
  { stringRegs with font := ⟨1, gw, gh, bpg, List.replicate 8 0⟩ }

theorem stringState_ready (cs : List Byte) : TextReady (stringState cs) stringRegs :=
  ⟨rfl, rfl, ⟨1, rfl, rfl⟩, rfl, rfl⟩

theorem headerState_ready (gw gh bpg : Byte) (cs : List Byte) :
    TextReady (headerState gw gh bpg cs) (headerRegs gw gh bpg) :=
  ⟨rfl, rfl, ⟨1, rfl, rfl⟩, rfl, rfl⟩

theorem witness_EncodedRequestsDecodeToThemselves :
    (Instr.setWindow 0xFFFF 0 0x8000 1).WellFormed := by decide
theorem witness_AcceptedFramesAreTheEncodedOnes :
    decodeFrame [0x4E, 0xFF, 0xFF] = .ok (.scrollStart 0xFFFF) := by decide
theorem witness_UnassignedSelectorsAreRefusedAtThePort :
    (script [0x4F]).requests = [⟨0x4F :: [], .bytes []⟩] ∧
    step (script [0x4F]) = .refused (.badFrame (.unassigned 0x4F)) ∧
    step (script [0x4E]) = .refused (.badFrame (.wrongLength 0x4E 3 1)) := ⟨rfl, rfl, rfl⟩
theorem witness_StepRunsTheDecodedRequest :
    (script [0x03]).requests = ⟨[0x03], .bytes []⟩ :: [] ∧ decodeFrame [0x03] = .ok .getWidth := by
  decide
theorem witness_FetchedTableWordRunsNext :
    decodeTableWord 24 0x4E00CF = some (.scrollStart 207) := by decide
theorem witness_StepWithoutRequestWaits : fresh.requests = [] := by decide
theorem witness_Enc16UnpacksToKeptBits : enc16 0x123456 = [0x11, 0xAA] := by decide
theorem witness_PackedLengthFollowsTheDepth :
    ([] : List Colour).length % 2 = 0 ∧ [0x123456#32].length % 2 = 1 := by decide
theorem witness_SetColorModeProgramsTheController : ∀ mode ∈ [0x00#8, 0x0B, 0x0D, 0x11, 0x13, 0xFF],
    mode ≠ 0x0C#8 ∧ mode ≠ 0x10#8 ∧ mode ≠ 0x12#8 := by decide
/-- A full screen and a corner pixel, V1, V2 by one column and by one row, V12. -/
theorem witness_WindowOperationsEmitTheirFrames :
    (pixelState .c16 .portrait).orient = .written .portrait ∧
    (pixelState .c16 .landscape).orient = .written .landscape ∧
    WindowLegal .portrait 0 0 175 207 ∧ WindowLegal .landscape 207 175 207 175 ∧
    ¬((1#16).toNat ≤ (0#16).toNat ∧ (0#16).toNat ≤ (0#16).toNat) ∧
    (((0#16).toNat ≤ (176#16).toNat ∧ (0#16).toNat ≤ (0#16).toNat) ∧
      ¬WindowLegal .portrait 0 0 176 0) ∧
    (((0#16).toNat ≤ (0#16).toNat ∧ (0#16).toNat ≤ (208#16).toNat) ∧
      ¬WindowLegal .portrait 0 0 0 208) ∧
    ∃ r ∈ [RegName.orient], regUnwritten fresh r := by
  refine ⟨by decide, by decide, by decide, by decide, by decide, by decide, by decide, .orient, ?_⟩
  exact ⟨by decide, rfl⟩
theorem witness_SetOrientationWritesTheController : 4 ≤ (4#8).toNat ∧ 4 ≤ (255#8).toNat := by decide
theorem witness_ExtentQueriesFollowOrientation :
    (pixelState .c16 .landscape).orient = .written .landscape ∧
    (pixelState .c16 .landscapeReversed).orient = .written .landscapeReversed ∧
    (pixelState .c16 .portrait).orient = .written .portrait ∧
    (pixelState .c16 .portraitReversed).orient = .written .portraitReversed ∧
    ∃ r ∈ [RegName.orient], regUnwritten fresh r :=
  ⟨rfl, rfl, rfl, rfl, .orient, by decide, rfl⟩
/-- The refusals of every operation on a window of pixels: V12 with either register, V1, V2, V3. -/
theorem witness_RefusesBadPixelWindow :
    (∃ r ∈ [RegName.cmode, .orient], regUnwritten fresh r) ∧
    (∃ r ∈ [RegName.cmode, .orient], regUnwritten { fresh with cmode := .written .c16 } r) ∧
    ((pixelState .c12 .portrait).cmode = .written .c12 ∧
      (pixelState .c12 .portrait).orient = .written .portrait) ∧
    ¬((0#16).toNat ≤ (0#16).toNat ∧ (9#16).toNat ≤ (8#16).toNat) ∧
    ((((0#16).toNat ≤ (0#16).toNat ∧ (0#16).toNat ≤ (208#16).toNat) ∧
      ¬WindowLegal .portrait 0 0 0 208)) ∧
    (WindowLegal .portrait 175 207 175 207 ∧ windowPixels 175 207 175 207 % 2 = 1) := by
  refine ⟨⟨.cmode, by decide, rfl⟩, ⟨.orient, by decide, rfl⟩, by decide, by decide, by decide,
    by decide⟩
/-- The whole screen at 12 bits and one corner pixel at 18 bits; refusals as in `witness_RefusesBadPixelWindow`. -/
theorem witness_FillRepeatsThePackedColour :
    PixelReady (pixelState .c12 .portrait) .c12 .portrait 0 0 175 207 ∧
    PixelReady (pixelState .c18 .landscape) .c18 .landscape 207 175 207 175 := by decide
theorem witness_TransfersHaveTheirExactEventCounts :
    (PixelReady (pixelState .c12 .portrait) .c12 .portrait 0 0 1 0 ∧
      ∃ t, exec (.fill 0 0 1 0 0) (pixelState .c12 .portrait) = .next t) ∧
    TextReady (stringState []) stringRegs ∧ GeometryLegal stringRegs.font ∧
    CharLegal stringRegs.font 0x22 ∧ (172#16).toNat + 4 ≤ 176 ∧ (206#16).toNat + 2 ≤ 208 ∧
    ∃ t, exec (.putChar 0x22 172 206) (stringState []) = .next t :=
  ⟨⟨by decide, _, rfl⟩, stringState_ready _, by decide, by decide, by decide, by decide, _, rfl⟩
/-- Exactly the required colours, and one too few. -/
theorem witness_FillFromArrayPacksTheSuppliedColours :
    (PixelReady { pixelState .c12 .portrait with inStream := .colours [1, 2] } .c12 .portrait 0 0 1 0 ∧
      windowPixels 0 0 1 0 ≤ [1#32, 2].length) ∧
    (PixelReady { pixelState .c12 .portrait with inStream := .colours [1] } .c12 .portrait 0 0 1 0 ∧
      (streamColours (.colours [1])).length < windowPixels 0 0 1 0) := by decide
/-- Exactly the required bytes, and one too few. -/
theorem witness_FillFromBufferStreamsBytesVerbatim :
    (PixelReady { pixelState .c12 .portrait with inStream := .bytes [1, 2, 3] } .c12 .portrait 0 0 1 0 ∧
      windowPixels 0 0 1 0 * 3 / 2 ≤ [1#8, 2, 3].length) ∧
    (PixelReady { pixelState .c12 .portrait with inStream := .bytes [1, 2] } .c12 .portrait 0 0 1 0 ∧
      (streamBytes (.bytes [1, 2])).length < windowPixels 0 0 1 0 * 3 / 2) := by decide
theorem witness_SetPixelSendsOnePackedPixel :
    PixelReady (pixelState .c16 .portrait) .c16 .portrait 175 207 175 207 ∧
    PixelReady (pixelState .c18 .portrait) .c18 .portrait 0 0 0 0 ∧
    ((pixelState .c12 .portrait).cmode = .written .c12 ∧
      (pixelState .c12 .portrait).orient = .written .portrait ∧
      WindowLegal .portrait 175 207 175 207) := by decide
theorem witness_SetPixel16SendsItsOperandHighByteFirst :
    PixelReady (pixelState .c16 .landscape) .c16 .landscape 207 175 207 175 ∧
    ((pixelState .c18 .portrait).cmode = .written .c18 ∧ ColorMode.c18 ≠ .c16 ∧
      (pixelState .c18 .portrait).orient = .written .portrait ∧
      WindowLegal .portrait 175 207 175 207) ∧
    ¬WindowLegal .portrait 176 0 176 0 ∧ ¬WindowLegal .portrait 0 208 0 208 ∧
    ∃ r ∈ [RegName.cmode, .orient], regUnwritten fresh r :=
  ⟨by decide, by decide, by decide, by decide, .cmode, by decide, rfl⟩
theorem witness_ReadMemoryDiscardsOneByteAndCopiesTheRest :
    PixelReady (pixelState .c12 .portrait) .c12 .portrait 0 0 175 207 ∧
    54912 = windowPixels 0 0 175 207 * 3 / 2 := by decide
theorem witness_BusAnswersInfluenceNothingButTheirCopies :
    ∃ t, exec (.readMemory 0 0 1 0) (pixelState .c16 .portrait) = .next t := ⟨_, rfl⟩
theorem witness_TheThreeFillsAgree :
    PixelReady (pixelState .c12 .portrait) .c12 .portrait 0 0 175 207 ∧
    36608 = ((175#16).toNat - (0#16).toNat + 1) * ((207#16).toNat - (0#16).toNat + 1) := by decide
theorem witness_TheHighColourByteIsIgnored :
    (0xFF123456#32).extractLsb' 0 24 = (0x00123456#32).extractLsb' 0 24 ∧
    [0xFF123456#32, 0].map (fun p => p.extractLsb' 0 24) =
      [0x00123456#32, 0x80000000].map (fun p => p.extractLsb' 0 24) := by decide
theorem witness_TextSettersStoreTheirOperands :
    (∃ t ∈ fresh.par.fonts, t.sel = 1#8) ∧ ∀ t ∈ fresh.par.fonts, t.sel ≠ 2#8 :=
  ⟨⟨testFont, List.mem_cons_self, rfl⟩, by intro t h; simp [fresh, testPar] at h; subst h; decide⟩
/-- The first and the last slot of the font, in the bottom-right cell. -/
theorem witness_PutCharBlitsTheGlyphRowMajor :
    TextReady (stringState []) stringRegs ∧ GeometryLegal stringRegs.font ∧
    CharLegal stringRegs.font 0x1F ∧ CharLegal stringRegs.font 0x22 ∧
    (172#16).toNat + stringRegs.font.gw.toNat ≤ logicalW stringRegs.orient ∧
    (206#16).toNat + stringRegs.font.gh.toNat ≤ logicalH stringRegs.orient :=
  ⟨stringState_ready _, by decide, by decide, by decide, by decide, by decide⟩
theorem witness_GlyphRowsLieInTheTable :
    GeometryLegal testFont ∧ CharLegal testFont 0x22 ∧ 1 < testFont.gh.toNat := by decide
/-- One column and one row too far, one code below and one above the font, a header of three rows in slots of two
bytes, and a header of zeros at the corner of the display and one column beyond it. -/
theorem witness_PutCharIsRefusedInReportOrder :
    (∃ r ∈ [RegName.cmode, .orient, .fsize, .fg, .bg], regUnwritten noBg r) ∧
    (TextReady (stringState []) stringRegs ∧
      (173#16).toNat + stringRegs.font.gw.toNat > logicalW stringRegs.orient ∧
      (207#16).toNat + stringRegs.font.gh.toNat > logicalH stringRegs.orient ∧
      ¬CharPasses stringRegs.font 0x1E ∧ ¬CharPasses stringRegs.font 0x23) ∧
    (TextReady (headerState 4 3 2 []) (headerRegs 4 3 2) ∧
      (172#16).toNat + (headerRegs 4 3 2).font.gw.toNat ≤ logicalW (headerRegs 4 3 2).orient ∧
      (205#16).toNat + (headerRegs 4 3 2).font.gh.toNat ≤ logicalH (headerRegs 4 3 2).orient ∧
      CharPasses (headerRegs 4 3 2).font 0x22 ∧ ¬GeometryLegal (headerRegs 4 3 2).font) ∧
    (TextReady (headerState 0 0 0 []) (headerRegs 0 0 0) ∧
      (176#16).toNat + (headerRegs 0 0 0).font.gw.toNat ≤ logicalW (headerRegs 0 0 0).orient ∧
      (177#16).toNat + (headerRegs 0 0 0).font.gw.toNat > logicalW (headerRegs 0 0 0).orient ∧
      (208#16).toNat + (headerRegs 0 0 0).font.gh.toNat ≤ logicalH (headerRegs 0 0 0).orient ∧
      CharPasses (headerRegs 0 0 0).font 0x1F ∧ ¬CharPasses (headerRegs 0 0 0).font 0x1E ∧
      ¬GeometryLegal (headerRegs 0 0 0).font) :=
  ⟨⟨.bg, by decide, rfl⟩, ⟨stringState_ready _, by decide⟩, ⟨headerState_ready .., by decide⟩,
    headerState_ready .., by decide⟩
/-- The corner of a cell of zero size (log 5), in the display and one column beyond it. -/
theorem test_putChar_zero_header :
    refusalsOf (exec (.putChar 0x1F 176 208) (headerState 0 0 0 [])) = some [.glyphGeometry 0 0 0] ∧
    refusalsOf (exec (.putChar 0x1F 177 0) (headerState 0 0 0 [])) =
      some [.windowRange ⟨177, 0, 176, 0⟩ 176 208] := by decide
/-- A run cut by the width, and one that starts beyond it. -/
theorem witness_PutStringDrawsTheGlyphsThatFit :
    TextReady (stringState [0x21, 0x22, 0x7F]) stringRegs ∧ GeometryLegal stringRegs.font ∧
    (3#16).toNat ≤ [0x21#8, 0x22, 0x7F].length ∧
    (206#16).toNat + stringRegs.font.gh.toNat ≤ logicalH stringRegs.orient ∧
    2 = min (3#16).toNat ((logicalW stringRegs.orient - (168#16).toNat) / stringRegs.font.gw.toNat) ∧
    (∀ c ∈ [0x21#8, 0x22, 0x7F].take 2, CharLegal stringRegs.font c) ∧
    0 = min (3#16).toNat ((logicalW stringRegs.orient - (177#16).toNat) / stringRegs.font.gw.toNat) :=
  ⟨stringState_ready _, by decide, by decide, by decide, by decide, by decide, by decide⟩
/-- One character and two padding glyphs; and one character with no room for a pad. -/
theorem witness_ClearToEolFillsTheLine :
    TextReady (stringState [0x21]) stringRegs ∧ GeometryLegal stringRegs.font ∧
    (1#16).toNat ≤ [0x21#8].length ∧
    (206#16).toNat + stringRegs.font.gh.toNat ≤ logicalH stringRegs.orient ∧
    3 = (logicalW stringRegs.orient - (164#16).toNat) / stringRegs.font.gw.toNat ∧
    1 = (logicalW stringRegs.orient - (170#16).toNat) / stringRegs.font.gw.toNat ∧
    (∀ c ∈ ([0x21#8].take (1#16).toNat).take 3, CharLegal stringRegs.font c) ∧
    ((1#16).toNat < 3 → CharLegal stringRegs.font 0x20) :=
  ⟨stringState_ready _, by decide, by decide, by decide, by decide, by decide, by decide, by decide⟩
/-- Three characters, which fit; and 45, which do not. -/
theorem witness_CenteredStringsAreCentred :
    (TextReady (stringState [0x21, 0x22, 0x21]) stringRegs ∧ GeometryLegal stringRegs.font ∧
      (3#16).toNat ≤ [0x21#8, 0x22, 0x21].length ∧
      (206#16).toNat + stringRegs.font.gh.toNat ≤ logicalH stringRegs.orient ∧
      12 = (3#16).toNat * stringRegs.font.gw.toNat ∧
      82 = (if 12 > logicalW stringRegs.orient then 0 else (logicalW stringRegs.orient - 12) / 2) ∧
      3 = min (3#16).toNat ((logicalW stringRegs.orient - 82) / stringRegs.font.gw.toNat) ∧
      ∀ c ∈ [0x21#8, 0x22, 0x21].take 3, CharLegal stringRegs.font c) ∧
    (TextReady (stringState (List.replicate 45 0x21)) stringRegs ∧
      (45#16).toNat ≤ (List.replicate 45 0x21#8).length ∧
      180 = (45#16).toNat * stringRegs.font.gw.toNat ∧
      0 = (if 180 > logicalW stringRegs.orient then 0 else (logicalW stringRegs.orient - 180) / 2) ∧
      44 = min (45#16).toNat ((logicalW stringRegs.orient - 0) / stringRegs.font.gw.toNat) ∧
      ∀ c ∈ (List.replicate 45 0x21#8).take 44, CharLegal stringRegs.font c) := by
  refine ⟨⟨stringState_ready _, by decide, by decide, by decide, by decide, by decide, by decide,
    by decide⟩, stringState_ready _, by decide, by decide, by decide, by decide, ?_⟩
  intro c h
  have h := List.eq_of_mem_replicate (List.mem_of_mem_take h)
  subst h
  decide
theorem witness_TooTallStringsAreRejectedSilently :
    TextReady (stringState [0x7F]) stringRegs ∧ GeometryLegal stringRegs.font ∧
    (1#16).toNat ≤ [0x7F#8].length ∧
    logicalH stringRegs.orient < (207#16).toNat + stringRegs.font.gh.toNat :=
  ⟨stringState_ready _, by decide, by decide, by decide⟩
/-- A font whose only slot is the reserved one. -/
def oneSlotRegs : TextRegs := { stringRegs with font := ⟨1, 4, 2, 2, [0x00, 0x00]⟩ }

/-- The test machine with that font. -/
def oneSlotState (cs : List Byte) : State := { stringState cs with
  par := { testPar with fonts := [oneSlotRegs.font] } }

/-- A code outside the font that does not fit after the last cell that does. -/
theorem oneCellDrawn (r : TextRegs) (c d : Byte) (hw : r.font.gw = 4#8) (ho : r.orient = .portrait)
    (hc : CharPasses r.font c) (y : Nat) : DrawnCodesPass r false [c, d] 172 y := by
  refine ⟨fun k e he hf => ?_, by simp⟩
  have h := hf.2
  rw [hw, ho] at h
  have h0 : k = 0 := by simp [logicalW, panelW] at h; omega
  subst h0
  cases he
  exact hc

/-- V12 by BG alone; V7 at the last cell that fits; V7 by a pad; V8 and V9 beside a code that is not drawn, each at
the last cell; V8 on a string that is too tall. -/
theorem witness_StringsAreRefusedByClass :
    (DrawsStringAt (.putString 168 206 2) stringRegs 206 2 false 168 ∧
      DrawsStringAt (.putStringClearToEol 168 206 1) oneSlotRegs 206 1 true 168 ∧
      DrawsStringAt (.putStringCentered 206 2) stringRegs 206 2 false 84 ∧
      DrawsStringAt (.putStringCentered 0 0xFFFF) stringRegs 0 0xFFFF false 0) ∧
    (∃ r ∈ [RegName.cmode, .orient, .fsize, .fg, .bg], regUnwritten noBg r) ∧
    (TextReady (stringState [0x21, 0x7F]) stringRegs ∧ [0x21#8, 0x7F][1]? = some 0x7F ∧
      CellFits stringRegs 168 206 1 ∧ (∀ d ∈ [0x21#8, 0x7F].take 1, CharPasses stringRegs.font d) ∧
      ¬CharPasses stringRegs.font 0x7F) ∧
    (TextReady (oneSlotState [0x1F]) oneSlotRegs ∧ CellFits oneSlotRegs 168 206 1 ∧
      (∀ d ∈ [0x1F#8], CharPasses oneSlotRegs.font d) ∧ ¬CharPasses oneSlotRegs.font 0x20) ∧
    (TextReady (headerState 4 3 2 [0x22, 0x7F]) (headerRegs 4 3 2) ∧
      DrawnCodesPass (headerRegs 4 3 2) false [0x22, 0x7F] 172 205 ∧
      DrawnCodesPass (headerRegs 4 3 2) true [0x7F] 0 206 ∧ ¬GeometryLegal (headerRegs 4 3 2).font) ∧
    (TextReady (stringState [0x21, 0x7F]) stringRegs ∧
      DrawnCodesPass stringRegs false [0x21, 0x7F] 172 206 ∧ GeometryLegal stringRegs.font ∧
      (streamBytes (stringState [0x21, 0x7F]).inStream).length < (3#16).toNat) := by
  refine ⟨⟨.inl ⟨168, rfl, .inl ⟨rfl, rfl⟩⟩, .inl ⟨168, rfl, .inr ⟨rfl, rfl⟩⟩, .inr ⟨rfl, rfl, by decide⟩,
    .inr ⟨rfl, rfl, by decide⟩⟩, ⟨.bg, by decide, rfl⟩, ⟨stringState_ready _, by decide⟩,
    ⟨⟨rfl, rfl, ⟨1, rfl, rfl⟩, rfl, rfl⟩, by decide⟩,
    ⟨headerState_ready .., oneCellDrawn _ _ _ rfl rfl (by decide) _, ⟨fun k c _ h => ?_, fun _ h => ?_⟩,
      by decide⟩,
    stringState_ready _, oneCellDrawn _ _ _ rfl rfl (by decide) _, by decide, by decide⟩
  · exact absurd h.1 (by decide)
  · exact absurd h.1 (by decide)
theorem witness_PartialModeSendsItsRows :
    ((207#16).toNat ≤ (207#16).toNat ∧ (207#16).toNat < 208) ∧
    ((0#16).toNat < (1#16).toNat) ∧ 208 ≤ (208#16).toNat := by decide
theorem witness_ScrollAreaSendsTheBottomFixedArea :
    (208#16).toNat + (0#16).toNat + (0#16).toNat = 208 ∧
    (0#16).toNat + (0#16).toNat + (208#16).toNat = 208 ∧
    208 < (208#16).toNat + (1#16).toNat ∧ 208 < (0xFFFF#16).toNat + (0xFFFF#16).toNat := by decide
theorem witness_ScrollStartSendsItsPosition :
    (0#16).toNat < 208 ∧ (207#16).toNat < 208 ∧ 208 ≤ (208#16).toNat := by decide
/-- Both ways an operation can answer: refused, and run. -/
theorem witness_ARefusalChangesNothingElse :
    (∃ t, exec .getWidth fresh = .next t ∧ t.refusals = [.unwrittenState .orient]) ∧
    ∃ t, exec .getWidth (pixelState .c16 .portrait) = .next t ∧ t.refusals = [] :=
  ⟨⟨_, rfl, rfl⟩, _, rfl, rfl⟩
theorem witness_StepKeepsTheRegisterInvariant :
    ({ stringState [] with requests := [⟨[0x30, 0x01], .bytes []⟩] } : State).Inv ∧
    ∃ t, step { stringState [] with requests := [⟨[0x30, 0x01], .bytes []⟩] } = .next t ∧
      t.fsize = .written 1 :=
  ⟨⟨⟨testFont, List.mem_cons_self, rfl⟩, trivial⟩, _, rfl, rfl⟩
theorem witness_HistoryOnlyGrows : ∃ t, step (script [0x40]) = .next t ∧ t.trace = [.cmd 0xC0] :=
  ⟨_, rfl, rfl⟩
theorem witness_OnlySettersWriteRegisters :
    (∃ t, exec (.init 0 0) (stringState []) = .next t) ∧
    (∀ b, Instr.init 0 0 ≠ .setColorMode b) ∧ (∀ b, Instr.init 0 0 ≠ .setOrientation b) ∧
    (∀ b, Instr.init 0 0 ≠ .setFont b) ∧ ∀ f b, Instr.init 0 0 ≠ .setTextColors f b :=
  ⟨⟨_, rfl⟩, nofun, nofun, nofun, nofun⟩
theorem witness_NoOperationWritesARom : ∃ t, exec (.setFont 1) fresh = .next t := ⟨_, rfl⟩
/-- A pixel inside both extents, in the last row and column common to them. -/
theorem witness_OrientationOnlyChangesTheExtent :
    (pixelState .c16 .landscape).orient = .written .landscape ∧ WindowLegal .landscape 0 0 207 175 ∧
    logicalW .landscapeReversed = logicalW .landscape ∧
    logicalH .landscapeReversed = logicalH .landscape ∧
    ∃ t u, exec (.setPixel 175 175 0) (pixelState .c16 .portrait) = .next t ∧
      exec (.setPixel 175 175 0)
        { pixelState .c16 .portrait with orient := .written .landscape } = .next u ∧
      t.refusals = (pixelState .c16 .portrait).refusals ∧
      u.refusals = (pixelState .c16 .portrait).refusals :=
  ⟨rfl, by decide, rfl, rfl, _, _, rfl, rfl, rfl, rfl⟩
theorem witness_NoOperationReadsAControllerRegister :
    ∃ t, exec (.readMemory 0 0 0 0) (pixelState .c16 .portrait) = .next t ∧ t.trace.length = 14 :=
  ⟨_, rfl, rfl⟩
theorem witness_PixelWritersEmitOnlyWholeTransfers :
    isPixelWriter (.putChar 0x21 0 0) = true ∧
    (∃ t, exec (.putChar 0x21 0 0) (stringState []) = .next t ∧ t.trace.length = 23 ∧
      t.refusals = (stringState []).refusals) ∧
    ∃ t, exec (.putChar 0x7F 0 0) (stringState []) = .next t ∧ t.trace = [] ∧
      t.refusals ≠ (stringState []).refusals :=
  ⟨rfl, ⟨_, rfl, rfl, rfl⟩, _, rfl, rfl, by decide⟩
theorem witness_TotalOperationsAreNeverRefused :
    (isTotalOp .sleepIn = true ∧ ∃ t, exec .sleepIn fresh = .next t) ∧
    (∃ t, exec .getWidth fresh = .next t ∧ t.refusals = [] ++ [.unwrittenState .orient]) ∧
    (isStringOp (.putString 0 0 1) = true ∧
      ∃ t, exec (.putString 0 0 1) (stringState []) = .next t ∧ t.refusals = [] ++ [.streamLength 1 0]) :=
  ⟨⟨rfl, _, rfl⟩, ⟨_, rfl, rfl⟩, rfl, _, rfl, rfl⟩

end Sys2Proof.Tests
end

section
/-! PROOFS. 00_scope.md: what every operation and every step leaves in place. The effect of an operation only
appends to the histories (`KeepsHistory`), an operation either has its effect or is refused
(`exec_runsOrRefuses`), and a step waits or runs one operation (`step_eq_next`). -/

namespace Sys2Proof.Proofs

open Sys2Proof.Machine Sys2Proof.Laws

/-! ## Effects that only append -/

/-- What the effect of an operation leaves in place: trace, OUT stream and responses are appended to (R8),
reads are counted up, and the refusal mark, the pending requests and the open parameters stay. -/
structure KeepsHistory (s t : State) : Prop where
  trace : s.trace <+: t.trace
  out : s.out <+: t.out
  responses : s.responses <+: t.responses
  reads : s.reads ≤ t.reads
  refusals : t.refusals = s.refusals
  requests : t.requests = s.requests
  par : t.par = s.par

namespace KeepsHistory

variable {s t : State}

theorem refl (s : State) : KeepsHistory s s := by constructor <;> simp

/-! One rule per operation on the state: done after an effect that keeps the histories, it gives another. -/

theorem emit (h : KeepsHistory s t) {es : List Event} : KeepsHistory s (t.emit es) :=
  { h with trace := h.trace.trans ⟨es, rfl⟩ }

theorem respond (h : KeepsHistory s t) {r : Response} : KeepsHistory s (t.respond r) :=
  { h with responses := h.responses.trans ⟨[r], rfl⟩ }

theorem readToOut (h : KeepsHistory s t) {n : Nat} : KeepsHistory s (State.readToOut n t) := by
  rw [readToOut_eq]
  exact { h with
    trace := h.trace.trans ⟨_, rfl⟩
    out := h.out.trans ⟨_, rfl⟩
    reads := h.reads.trans (Nat.le_add_right ..) }

theorem busReadData (h : KeepsHistory s t) : KeepsHistory s t.busReadData :=
  { h with trace := h.trace.trans ⟨_, rfl⟩, reads := h.reads.trans (Nat.le_succ _) }

theorem writeCmode (h : KeepsHistory s t) {m : ColorMode} : KeepsHistory s (t.writeCmode m) := { h with }

theorem writeOrient (h : KeepsHistory s t) {o : Orientation} : KeepsHistory s (t.writeOrient o) :=
  { h with }

theorem writeFsize (h : KeepsHistory s t) {f : Byte} : KeepsHistory s (t.writeFsize f) := { h with }

theorem writeTextColors (h : KeepsHistory s t) {fg bg : Rgb} :
    KeepsHistory s (t.writeTextColors fg bg) := { h with }

theorem dropColours (h : KeepsHistory s t) {n : Nat} : KeepsHistory s (t.dropColours n) := { h with }

theorem dropBytes (h : KeepsHistory s t) {n : Nat} : KeepsHistory s (t.dropBytes n) := { h with }

/-! The named sequences of emissions follow. -/

theorem busCmd (h : KeepsHistory s t) {c : Cmd} : KeepsHistory s (t.busCmd c) := h.emit

theorem send (h : KeepsHistory s t) {bs : List Byte} : KeepsHistory s (t.send bs) := h.emit

theorem wireCmd (h : KeepsHistory s t) {c : Cmd} {ps : List Byte} :
    KeepsHistory s (t.wireCmd c ps) := h.busCmd.send

theorem delay (h : KeepsHistory s t) {d : Duration} : KeepsHistory s (t.delay d) := h.emit

theorem sleepOut (h : KeepsHistory s t) : KeepsHistory s t.sleepOut := h.busCmd.delay

theorem controllerReset (h : KeepsHistory s t) : KeepsHistory s t.controllerReset :=
  h.emit.delay.emit.delay

theorem setWindow (h : KeepsHistory s t) {w : Window} : KeepsHistory s (t.setWindow w) :=
  h.wireCmd.wireCmd

theorem setWriteWindow (h : KeepsHistory s t) {w : Window} : KeepsHistory s (t.setWriteWindow w) :=
  h.setWindow.busCmd

theorem setReadWindow (h : KeepsHistory s t) {w : Window} : KeepsHistory s (t.setReadWindow w) :=
  h.setWindow.busCmd

theorem drawGlyph (h : KeepsHistory s t) {r : TextRegs} {c : Byte} {x y : Nat} :
    KeepsHistory s (t.drawGlyph r c x y) := h.setWriteWindow.send

theorem drawCells (h : KeepsHistory s t) {r : TextRegs} {y : Nat} {cells : List Cell} :
    KeepsHistory s (State.drawCells r y cells t) := by
  rw [drawCells_eq_emit]
  exact h.emit

theorem sendLut (h : KeepsHistory s t) {l : LutTable} : KeepsHistory s (t.sendLut l) := h.wireCmd

/-- SET_COLOR_MODE's frames, with and without a table (R100). -/
theorem sendColorMode (h : KeepsHistory s t) {m : ColorMode} : KeepsHistory s (t.sendColorMode m) := by
  unfold State.sendColorMode
  split
  · exact h.wireCmd.sendLut
  · exact h.wireCmd

end KeepsHistory

/-! ## Operations run whole or are refused whole -/

/-- Where the checks of an operation pass, its effect keeps the histories. -/
def EffectKeepsHistory (s : State) (r : Except Violation State) : Prop :=
  ∀ t, r = .ok t → KeepsHistory s t

/-- A check in front of an operation changes nothing about its effect, whatever the check answers. -/
theorem EffectKeepsHistory.bind {s : State} {α : Type} {x : Except Violation α}
    {f : α → Except Violation State} (h : ∀ a, EffectKeepsHistory s (f a)) :
    EffectKeepsHistory s (x >>= f) := by
  intro t ht
  obtain ⟨a, -, hfa⟩ := bind_eq_ok.1 ht
  exact h a t hfa

theorem EffectKeepsHistory.ok {s t : State} (h : KeepsHistory s t) : EffectKeepsHistory s (.ok t) := by
  rintro _ ⟨⟩
  exact h

/-- The two answers of an operation: the next state of its effect, or that of its refusal (R214). -/
def RunsOrRefuses (s : State) (r : Result) : Prop :=
  ∃ t, r = .next t ∧ (KeepsHistory s t ∨ ∃ v, t = s.refuse v)

theorem RunsOrRefuses.next {s t : State} (h : KeepsHistory s t) : RunsOrRefuses s (.next t) :=
  ⟨t, rfl, .inl h⟩

theorem RunsOrRefuses.perform {s : State} {r : Except Violation State} (h : EffectKeepsHistory s r) :
    RunsOrRefuses s (s.perform r) := by
  cases r with
  | ok t => exact .next (h t rfl)
  | error v => exact ⟨s.refuse v, rfl, .inr ⟨v, rfl⟩⟩

/-- The part the three string operations share (R160, R161). -/
theorem putStringAt_keepsHistory {r : TextRegs} {pad : Bool} {x y len : Nat} {s : State} :
    EffectKeepsHistory s (putStringAt r pad x y len s) :=
  .bind fun _ => .bind fun _ => .bind fun _ => .ok (KeepsHistory.refl s).dropBytes.drawCells

/-- Every operation is its checks followed by one effect: each case names them in the order of its `exec`
function. -/
theorem exec_runsOrRefuses (i : Instr) (s : State) : RunsOrRefuses s (exec i s) := by
  have h : KeepsHistory s s := .refl s
  cases i with
  | init => exact .next h.controllerReset.sleepOut.busCmd.busCmd.busCmd.delay.busCmd.respond
  | setColorMode => exact .perform (.bind fun _ => .ok h.sendColorMode.writeCmode)
  | setOrientation => exact .perform (.bind fun _ => .ok h.wireCmd.writeOrient)
  | getWidth | getHeight => exact .perform (.bind fun _ => .ok h.respond)
  | setWindow => exact .perform (.bind fun _ => .bind fun _ => .ok h.setWindow)
  | setWriteWindow => exact .perform (.bind fun _ => .bind fun _ => .ok h.setWriteWindow)
  | setReadWindow => exact .perform (.bind fun _ => .bind fun _ => .ok h.setReadWindow)
  | fill => exact .perform (.bind fun _ => .ok h.setWriteWindow.send)
  | fillFromArray =>
    exact .perform (.bind fun _ => .bind fun _ => .bind fun _ => .ok h.dropColours.setWriteWindow.send)
  | fillFromBuffer =>
    exact .perform (.bind fun _ => .bind fun _ => .ok h.dropBytes.setWriteWindow.send)
  | setPixel | setPixel16 =>
    exact .perform (.bind fun _ => .bind fun _ => .bind fun _ => .ok h.setWriteWindow.send)
  | readMemory => exact .perform (.bind fun _ => .ok h.setReadWindow.busReadData.readToOut)
  | setFont => exact .perform (.bind fun _ => .ok h.writeFsize)
  | setTextColors => exact .perform (.ok h.writeTextColors)
  | putChar =>
    exact .perform (.bind fun _ => .bind fun _ => .bind fun _ => .bind fun _ => .ok h.drawGlyph)
  | putString | putStringClearToEol | putStringCentered =>
    exact .perform (.bind fun _ => putStringAt_keepsHistory)
  | partialMode => exact .perform (.bind fun _ => .ok h.busCmd.wireCmd)
  | scrollArea | scrollStart => exact .perform (.bind fun _ => .ok h.wireCmd)
  | sleepOut => exact .next h.sleepOut
  | sleepIn | displayOn | displayOff | idleOn | idleOff | inversionOn | inversionOff | normalMode | teOff
  | wireCmdSlpin | wireCmdSlpout | wireCmdDispon | wireCmdDispoff | wireCmdNoron | wireCmdIdmon
  | wireCmdIdmoff | wireCmdInvon | wireCmdInvoff | wireCmdRamwr | wireCmdRamrd | wireCmdPtlon
  | wireCmdTeoff => exact .next h.busCmd
  | gammaSet | teOn | wireCmdCaset | wireCmdPaset | wireCmdMadctl | wireCmdColmod | wireCmdPtlar
  | wireCmdVscrdef | wireCmdVscrsadd | wireCmdGamset | wireCmdTeon => exact .next h.wireCmd
  | wireCmdRgbset => exact .next h.sendLut
  | wirePix12 | wirePix16 | wirePix18 => exact .next h.send

/-- Settles O48: the effect and the refusal of an operation both keep requests and parameters. -/
theorem everyOperationAnswersANextState : Obligations.EveryOperationAnswersANextState := by
  intro i s
  obtain ⟨t, hexec, hkeeps | ⟨v, rfl⟩⟩ := exec_runsOrRefuses i s
  · exact ⟨t, hexec, hkeeps.requests, hkeeps.par⟩
  · exact ⟨s.refuse v, hexec, s.refuse_requests v, s.refuse_par v⟩

/-! ## Steps -/

/-- A step answers a next state in exactly two ways: it waits, with no request pending, or it runs the
operation that the first request's frame spells. -/
theorem step_eq_next {s t : State} :
    step s = .next t ↔ (s.requests = [] ∧ t = s) ∨
      ∃ r rest i, s.requests = r :: rest ∧ decodeFrame r.frame = .ok i ∧
        exec i (s.begin r.input rest) = .next t := by
  unfold step
  cases hreq : s.requests with
  | nil => simp [eq_comm]
  | cons r rest => cases hdec : decodeFrame r.frame <;> simp [hdec]

/-- Settles O52: a step that runs an operation starts it on the histories as they were, and the operation
appends to them or records its refusal behind the earlier ones. -/
theorem historyOnlyGrows : Obligations.HistoryOnlyGrows := by
  intro s t hstep
  obtain ⟨-, rfl⟩ | ⟨r, rest, i, -, -, hrun⟩ := step_eq_next.1 hstep
  · simp
  · obtain ⟨u, hexec, hcases⟩ := exec_runsOrRefuses i (s.begin r.input rest)
    obtain rfl : t = u := by simpa [hrun] using hexec
    obtain hkeeps | ⟨v, rfl⟩ := hcases
    · have hrefusals : s.refusals <+: t.refusals := by simp [hkeeps.refusals]
      exact ⟨hkeeps.trace, hkeeps.out, hkeeps.responses, hrefusals, hkeeps.reads⟩
    · simp

end Sys2Proof.Proofs
end

section
/-! PROOFS. 10_state.md: the configuration registers. An operation writes at most the register it is the setter of
(`exec_registerEffect`), from which the register invariant follows for every step. -/

namespace Sys2Proof.Proofs

open Sys2Proof.Machine Sys2Proof.Laws

/-! ## The register file -/

/-- The five configuration registers as one value (R14). -/
structure Registers where
  cmode : ConfigReg ColorMode
  orient : ConfigReg Orientation
  fsize : ConfigReg Byte
  fg : ConfigReg Rgb
  bg : ConfigReg Rgb

/-- The registers of a state. -/
def registers (s : State) : Registers := ⟨s.cmode, s.orient, s.fsize, s.fg, s.bg⟩

section

variable (s : State)

@[simp] theorem registers_emit (es : List Event) : registers (s.emit es) = registers s := rfl

@[simp] theorem registers_respond (r : Response) : registers (s.respond r) = registers s := rfl

@[simp] theorem registers_dropColours (n : Nat) : registers (s.dropColours n) = registers s := rfl

@[simp] theorem registers_dropBytes (n : Nat) : registers (s.dropBytes n) = registers s := rfl

@[simp] theorem registers_busReadData : registers s.busReadData = registers s := rfl

@[simp] theorem registers_refuse (v : Violation) : registers (s.refuse v) = registers s := rfl

@[simp] theorem registers_writeCmode (m : ColorMode) :
    registers (s.writeCmode m) = { registers s with cmode := .written m } := rfl

@[simp] theorem registers_writeOrient (o : Orientation) :
    registers (s.writeOrient o) = { registers s with orient := .written o } := rfl

@[simp] theorem registers_writeFsize (f : Byte) :
    registers (s.writeFsize f) = { registers s with fsize := .written f } := rfl

@[simp] theorem registers_writeTextColors (fg bg : Rgb) :
    registers (s.writeTextColors fg bg) =
      { registers s with fg := .written fg, bg := .written bg } := rfl

/-! The named sequences of emissions and reads keep the registers as their parts do. -/

@[simp] theorem registers_setWindow (w : Window) : registers (s.setWindow w) = registers s := by
  simp [setWindow_eq_emit]

@[simp] theorem registers_setWriteWindow (w : Window) :
    registers (s.setWriteWindow w) = registers s := by
  simp [State.setWriteWindow]

@[simp] theorem registers_setReadWindow (w : Window) :
    registers (s.setReadWindow w) = registers s := by
  simp [State.setReadWindow]

@[simp] theorem registers_readToOut (n : Nat) : registers (State.readToOut n s) = registers s := by
  rw [readToOut_eq]
  rfl

@[simp] theorem registers_drawGlyph (r : TextRegs) (c : Byte) (x y : Nat) :
    registers (s.drawGlyph r c x y) = registers s := by
  simp [drawGlyph_eq_emit]

@[simp] theorem registers_drawCells (r : TextRegs) (y : Nat) (cells : List Cell) :
    registers (State.drawCells r y cells s) = registers s := by
  simp [drawCells_eq_emit]

@[simp] theorem registers_sendLut (l : LutTable) : registers (s.sendLut l) = registers s := by
  simp [State.sendLut]

@[simp] theorem registers_sendColorMode (m : ColorMode) :
    registers (s.sendColorMode m) = registers s := by
  cases m <;> simp [State.sendColorMode, lutFor]

@[simp] theorem registers_sleepOut : registers s.sleepOut = registers s := by
  simp [State.sleepOut]

@[simp] theorem registers_controllerReset : registers s.controllerReset = registers s := by
  simp [State.controllerReset]

end

/-! ## What an operation does to the registers -/

/-- What a run of an instruction from `s` to `t` does to the registers: nothing, or, where it is a setter whose
operand is legal, the write of its own register (R14, R21). -/
inductive RegisterEffect (s t : State) : Instr → Prop
  | keeps {i : Instr} (hregs : registers t = registers s) : RegisterEffect s t i
  | writesCmode {b : Byte} {m : ColorMode} (hmode : modeOf b = some m)
      (hregs : registers t = { registers s with cmode := .written m }) :
      RegisterEffect s t (.setColorMode b)
  | writesOrient {b : Byte} {o : Orientation} (horient : orientOf b = some o)
      (hregs : registers t = { registers s with orient := .written o }) :
      RegisterEffect s t (.setOrientation b)
  | writesFsize {b : Byte} {font : FontTable} (hfont : fontOf s.par b = some font)
      (hregs : registers t = { registers s with fsize := .written b }) :
      RegisterEffect s t (.setFont b)
  | writesTextColours {fg bg : Colour}
      (hregs : registers t =
        { registers s with fg := .written (dropHigh fg), bg := .written (dropHigh bg) }) :
      RegisterEffect s t (.setTextColors fg bg)

/-- Where the checks of instruction `i` pass, its effect on the registers is one of `RegisterEffect`. -/
def EffectOnRegisters (s : State) (i : Instr) (r : Except Violation State) : Prop :=
  ∀ t, r = .ok t → RegisterEffect s t i

namespace EffectOnRegisters

variable {s t : State} {i : Instr}

/-- The effect behind a check may use what the check found. -/
theorem bind {α : Type} {x : Except Violation α} {f : α → Except Violation State}
    (h : ∀ a, x = .ok a → EffectOnRegisters s i (f a)) : EffectOnRegisters s i (x >>= f) := by
  intro t ht
  obtain ⟨a, hx, hfa⟩ := bind_eq_ok.1 ht
  exact h a hx t hfa

theorem ok (h : RegisterEffect s t i) : EffectOnRegisters s i (.ok t) := by
  rintro _ ⟨⟩
  exact h

theorem keeps (h : registers t = registers s) : EffectOnRegisters s i (.ok t) := .ok (.keeps h)

end EffectOnRegisters

/-- Whatever instruction `i` answers, its effect on the registers is one of `RegisterEffect`. -/
def AnswerOnRegisters (s : State) (i : Instr) (r : Result) : Prop :=
  ∀ t, r = .next t → RegisterEffect s t i

namespace AnswerOnRegisters

variable {s t : State} {i : Instr}

theorem next (h : registers t = registers s) : AnswerOnRegisters s i (.next t) := by
  rintro _ ⟨⟩
  exact .keeps h

/-- A refusal leaves the registers alone (R214), so only the effect behind the checks counts. -/
theorem perform {r : Except Violation State} (h : EffectOnRegisters s i r) :
    AnswerOnRegisters s i (s.perform r) := by
  intro t ht
  obtain hok | ⟨v, -, rfl⟩ := perform_eq_next.1 ht
  · exact h t hok
  · exact .keeps (registers_refuse s v)

end AnswerOnRegisters

/-- The part the three string operations share reads the registers and writes none (R160, R161). -/
theorem putStringAt_keepsRegisters {r : TextRegs} {pad : Bool} {x y len : Nat} {s : State} {i : Instr} :
    EffectOnRegisters s i (putStringAt r pad x y len s) :=
  .bind fun _ _ => .bind fun _ _ => .bind fun _ _ => .keeps (by simp)

/-- The four setters write their registers; every other operation, INIT among them, only emits, responds, reads
or takes from the IN stream. -/
theorem exec_registerEffect (i : Instr) (s : State) : AnswerOnRegisters s i (exec i s) := by
  cases i with
  | setColorMode =>
    exact .perform (.bind fun _ hm => .ok (.writesCmode (checkMode_eq_ok.1 hm) (by simp)))
  | setOrientation =>
    exact .perform (.bind fun _ ho => .ok (.writesOrient (checkOrientation_eq_ok.1 ho) (by simp)))
  | setFont =>
    exact .perform (.bind fun _ hf => .ok (.writesFsize (checkFont_eq_ok.1 hf) (by simp)))
  | setTextColors => exact .perform (.ok (.writesTextColours (by simp)))
  | getWidth | getHeight | fill | readMemory | partialMode | scrollArea | scrollStart =>
    exact .perform (.bind fun _ _ => .keeps (by simp))
  | setWindow | setWriteWindow | setReadWindow | fillFromBuffer =>
    exact .perform (.bind fun _ _ => .bind fun _ _ => .keeps (by simp))
  | fillFromArray | setPixel | setPixel16 =>
    exact .perform (.bind fun _ _ => .bind fun _ _ => .bind fun _ _ => .keeps (by simp))
  | putChar =>
    exact .perform (.bind fun _ _ => .bind fun _ _ => .bind fun _ _ => .bind fun _ _ =>
      .keeps (by simp))
  | putString | putStringClearToEol | putStringCentered =>
    exact .perform (.bind fun _ _ => putStringAt_keepsRegisters)
  | init | sleepIn | sleepOut | displayOn | displayOff | idleOn | idleOff | inversionOn | inversionOff
  | normalMode | gammaSet | teOn | teOff | wirePix12 | wirePix16 | wirePix18 | wireCmdSlpin
  | wireCmdSlpout | wireCmdDispon | wireCmdDispoff | wireCmdNoron | wireCmdIdmon | wireCmdIdmoff
  | wireCmdInvon | wireCmdInvoff | wireCmdCaset | wireCmdPaset | wireCmdRamwr | wireCmdRamrd
  | wireCmdMadctl | wireCmdColmod | wireCmdRgbset | wireCmdPtlon | wireCmdPtlar | wireCmdVscrdef
  | wireCmdVscrsadd | wireCmdGamset | wireCmdTeon | wireCmdTeoff => exact .next (by simp)

/-- Settles O53: an effect either keeps a register or is that of its setter. -/
theorem onlySettersWriteRegisters : Obligations.OnlySettersWriteRegisters := by
  intro i s t hexec
  cases exec_registerEffect i s t hexec with
  | keeps hregs =>
    obtain ⟨hcmode, horient, hfsize, hfg, hbg⟩ := Registers.mk.inj hregs
    exact ⟨fun _ => hcmode, fun _ => horient, fun _ => hfsize, fun _ => ⟨hfg, hbg⟩⟩
  | writesCmode _ hregs =>
    obtain ⟨-, horient, hfsize, hfg, hbg⟩ := Registers.mk.inj hregs
    exact ⟨fun hne => absurd rfl (hne _), fun _ => horient, fun _ => hfsize, fun _ => ⟨hfg, hbg⟩⟩
  | writesOrient _ hregs =>
    obtain ⟨hcmode, -, hfsize, hfg, hbg⟩ := Registers.mk.inj hregs
    exact ⟨fun _ => hcmode, fun hne => absurd rfl (hne _), fun _ => hfsize, fun _ => ⟨hfg, hbg⟩⟩
  | writesFsize _ hregs =>
    obtain ⟨hcmode, horient, -, hfg, hbg⟩ := Registers.mk.inj hregs
    exact ⟨fun _ => hcmode, fun _ => horient, fun hne => absurd rfl (hne _), fun _ => ⟨hfg, hbg⟩⟩
  | writesTextColours hregs =>
    obtain ⟨hcmode, horient, hfsize, -, -⟩ := Registers.mk.inj hregs
    exact ⟨fun _ => hcmode, fun _ => horient, fun _ => hfsize, fun hne => absurd rfl (hne _ _)⟩

/-! ## The register invariant -/

/-- The invariant reads FSIZE, FG and BG and the open parameters, and nothing else of the state. -/
theorem inv_of_registers {s t : State} {r : Registers} (hpar : t.par = s.par) (hregs : registers t = r)
    (hfsize : fsizeLegal s.par r.fsize) (hcolours : textColoursPaired r.fg r.bg) : t.Inv := by
  subst hregs
  rw [← hpar] at hfsize
  exact ⟨hfsize, hcolours⟩

/-- A selector that V6 lets pass is one of FONTSIZES (R17). -/
theorem fsizeLegal_of_fontOf {p : Params} {b : Byte} {font : FontTable} (h : fontOf p b = some font) :
    fsizeLegal p (.written b) :=
  ⟨font, List.mem_of_find?_eq_some h, by simpa using List.find?_some h⟩

/-- An operation keeps the invariant: SET_FONT writes a selector it has checked (R17), SET_TEXT_COLORS writes
both colours (R20), and the other setters write registers the invariant does not read. -/
theorem exec_keeps_inv {i : Instr} {s t : State} (hinv : s.Inv) (hexec : exec i s = .next t) : t.Inv := by
  obtain ⟨u, hu, -, hpar⟩ := everyOperationAnswersANextState i s
  obtain rfl : t = u := by simpa [hexec] using hu
  obtain ⟨hfsize, hcolours⟩ := hinv
  cases exec_registerEffect i s t hexec with
  | keeps hregs | writesCmode _ hregs | writesOrient _ hregs =>
    exact inv_of_registers hpar hregs hfsize hcolours
  | writesFsize hfont hregs =>
    exact inv_of_registers hpar hregs (fsizeLegal_of_fontOf hfont) hcolours
  | writesTextColours hregs => exact inv_of_registers hpar hregs hfsize trivial

/-- Settles O50: a step waits, or runs one operation on the registers as they were. -/
theorem stepKeepsTheRegisterInvariant : Obligations.StepKeepsTheRegisterInvariant := by
  intro s t hinv hstep
  obtain ⟨-, rfl⟩ | ⟨r, rest, i, -, -, hrun⟩ := step_eq_next.1 hstep
  · exact hinv
  · have hbegun : (s.begin r.input rest).Inv := hinv
    exact exec_keeps_inv hbegun hrun

/-! ## The request a step runs -/

/-- Settles O5: `State.begin` takes the request off the list and sets the IN stream, and nothing else. -/
theorem stepRunsTheDecodedRequest : Obligations.StepRunsTheDecodedRequest := by
  intro s frame input rest i hreq hdec
  calc step s = exec i (s.begin input rest) := by simp [step, hreq, hdec]
    _ = exec i { s with requests := rest, inStream := input } := rfl

end Sys2Proof.Proofs
end

section
/-! PROOFS. 20_memory.md: what the operations read and write outside the registers. The answers of the environment
reach only their copies (`exec_ignoresAnswers`, `readMemory_agree`), the ROMs stay, no controller register is read
(`exec_readsNoRegister`), and the high byte of a colour is ignored (`exec_clearColours`, `arrayData_congr`). -/

namespace Sys2Proof.Proofs

open Sys2Proof.Machine Sys2Proof.Laws

/-! ## The answers of the environment -/

/-- The state with other answers of the environment to the BUS reads to come (R45). -/
def withAnswers (s : State) (answers : List Byte) (reads : Nat) : State :=
  { s with answers := answers, reads := reads }

/-- What two runs with different answers have in common: everything but the answers, the values in read events
and the bytes of the OUT stream. -/
structure AgreeButAnswers (t u : State) : Prop where
  regs : sameRegs t u
  responses : u.responses = t.responses
  refusals : u.refusals = t.refusals
  inStream : u.inStream = t.inStream
  requests : u.requests = t.requests
  par : u.par = t.par
  trace : u.trace.map hideRead = t.trace.map hideRead
  out : u.out.length = t.out.length

namespace AgreeButAnswers

variable {t u : State}

/-- Two runs that still have their answers to come agree. -/
theorem withAnswers (t : State) (answers : List Byte) (reads : Nat) :
    AgreeButAnswers t (withAnswers t answers reads) := by
  constructor <;> simp [Proofs.withAnswers, sameRegs]

/-- A BUS read puts one read event in each trace. -/
theorem busReadData (h : AgreeButAnswers t u) : AgreeButAnswers t.busReadData u.busReadData :=
  { h with trace := by simp [State.busReadData, hideRead, h.trace] }

/-- READ_MEMORY's loop copies equally many bytes to each OUT stream. -/
theorem readToOut (h : AgreeButAnswers t u) {n : Nat} :
    AgreeButAnswers (State.readToOut n t) (State.readToOut n u) := by
  simp only [readToOut_eq]
  exact { h with
    trace := by simp [hideRead, Function.comp_def, h.trace]
    out := by simp [h.out] }

end AgreeButAnswers

section

variable {s : State} {answers : List Byte} {reads : Nat}

/-- The effect in the second run is that in the first, with the other answers all still to come. -/
def EffectIgnoresAnswers (answers : List Byte) (reads : Nat) (r r' : Except Violation State) : Prop :=
  r' = r.map (withAnswers · answers reads)

/-- A check that reads no answer is decided alike in both runs. -/
theorem EffectIgnoresAnswers.bind {α : Type} {x : Except Violation α}
    {f g : α → Except Violation State} (h : ∀ a, EffectIgnoresAnswers answers reads (f a) (g a)) :
    EffectIgnoresAnswers answers reads (x >>= f) (x >>= g) := by
  cases x with
  | ok a => exact h a
  | error v => rfl

/-- The second run answers what the first does, with the other answers all still to come. -/
def IgnoresAnswers (answers : List Byte) (reads : Nat) (r r' : Result) : Prop :=
  ∀ t, r = .next t → r' = .next (withAnswers t answers reads)

theorem IgnoresAnswers.next {t : State} :
    IgnoresAnswers answers reads (.next t) (.next (withAnswers t answers reads)) := by
  rintro _ ⟨⟩
  rfl

theorem IgnoresAnswers.perform {r r' : Except Violation State}
    (h : EffectIgnoresAnswers answers reads r r') :
    IgnoresAnswers answers reads (s.perform r) ((withAnswers s answers reads).perform r') := by
  subst h
  cases r with
  | ok t => exact .next
  | error v => exact .next (t := s.refuse v)

theorem sendColorMode_withAnswers (m : ColorMode) :
    (withAnswers s answers reads).sendColorMode m = withAnswers (s.sendColorMode m) answers reads := by
  cases m <;> rfl

theorem drawCells_withAnswers (r : TextRegs) (y : Nat) (cells : List Cell) :
    State.drawCells r y cells (withAnswers s answers reads) =
      withAnswers (State.drawCells r y cells s) answers reads := by
  simp only [drawCells_eq_emit]
  rfl

/-- The part the three string operations share makes no BUS read (R160, R161). -/
theorem putStringAt_ignoresAnswers {r : TextRegs} {pad : Bool} {x y len : Nat} :
    EffectIgnoresAnswers answers reads (putStringAt r pad x y len s)
      (putStringAt r pad x y len (withAnswers s answers reads)) :=
  .bind fun _ => .bind fun _ => .bind fun _ =>
    congrArg Except.ok (drawCells_withAnswers (s := s.dropBytes len) r y _)

/-- READ_MEMORY apart, an operation neither uses nor takes an answer: each case names its checks in the order
of its `exec` function, and the effect behind them commutes with a change of the answers. -/
theorem exec_ignoresAnswers {i : Instr} (hread : ∀ x0 y0 x1 y1, i ≠ .readMemory x0 y0 x1 y1) :
    IgnoresAnswers answers reads (exec i s) (exec i (withAnswers s answers reads)) := by
  cases i with
  | readMemory => exact absurd rfl (hread _ _ _ _)
  | setColorMode =>
    exact .perform (.bind fun m => by rw [sendColorMode_withAnswers]; rfl)
  | setOrientation | getWidth | getHeight | fill | setFont | partialMode | scrollArea | scrollStart =>
    exact .perform (.bind fun _ => rfl)
  | setWindow | setWriteWindow | setReadWindow | fillFromBuffer =>
    exact .perform (.bind fun _ => .bind fun _ => rfl)
  | fillFromArray | setPixel | setPixel16 =>
    exact .perform (.bind fun _ => .bind fun _ => .bind fun _ => rfl)
  | setTextColors => exact .next
  | putChar => exact .perform (.bind fun _ => .bind fun _ => .bind fun _ => .bind fun _ => rfl)
  | putString | putStringClearToEol | putStringCentered =>
    exact .perform (.bind fun _ => putStringAt_ignoresAnswers)
  | init | sleepIn | sleepOut | displayOn | displayOff | idleOn | idleOff | inversionOn | inversionOff
  | normalMode | gammaSet | teOn | teOff | wirePix12 | wirePix16 | wirePix18 | wireCmdSlpin
  | wireCmdSlpout | wireCmdDispon | wireCmdDispoff | wireCmdNoron | wireCmdIdmon | wireCmdIdmoff
  | wireCmdInvon | wireCmdInvoff | wireCmdCaset | wireCmdPaset | wireCmdRamwr | wireCmdRamrd
  | wireCmdMadctl | wireCmdColmod | wireCmdRgbset | wireCmdPtlon | wireCmdPtlar | wireCmdVscrdef
  | wireCmdVscrsadd | wireCmdGamset | wireCmdTeon | wireCmdTeoff => exact .next

/-- The two runs of READ_MEMORY are refused alike, or make their reads, the dummy first, behind equal frames
(R135). -/
theorem readMemory_agree {x0 y0 x1 y1 : Half} {t : State}
    (hexec : exec (.readMemory x0 y0 x1 y1) s = .next t) :
    ∃ u, exec (.readMemory x0 y0 x1 y1) (withAnswers s answers reads) = .next u ∧
      AgreeButAnswers t u := by
  have hchecks : checkPixels (withAnswers s answers reads) (windowOf x0 y0 x1 y1) =
      checkPixels s (windowOf x0 y0 x1 y1) := rfl
  simp only [exec, execReadMemory, hchecks] at hexec ⊢
  cases hm : checkPixels s (windowOf x0 y0 x1 y1) with
  | ok m =>
    obtain rfl : _ = t := by simpa [hm] using hexec
    exact ⟨_, rfl, (AgreeButAnswers.withAnswers (s.setReadWindow _) answers reads).busReadData.readToOut⟩
  | error v =>
    obtain rfl : s.refuse v = t := by simpa [hm] using hexec
    exact ⟨_, rfl, AgreeButAnswers.withAnswers (s.refuse v) answers reads⟩

end

/-- Settles O28: only READ_MEMORY reads the BUS, and its two runs agree but for the values read. -/
theorem busAnswersInfluenceNothingButTheirCopies :
    Obligations.BusAnswersInfluenceNothingButTheirCopies := by
  intro i s t answers reads hexec
  have hagree : ∃ u, exec i (withAnswers s answers reads) = .next u ∧ AgreeButAnswers t u := by
    by_cases hread : ∃ x0 y0 x1 y1, i = .readMemory x0 y0 x1 y1
    · obtain ⟨x0, y0, x1, y1, rfl⟩ := hread
      exact readMemory_agree hexec
    · push Not at hread
      exact ⟨_, exec_ignoresAnswers hread t hexec, AgreeButAnswers.withAnswers t answers reads⟩
  obtain ⟨u, hu, h⟩ := hagree
  exact ⟨u, hu, h.regs, h.responses, h.refusals, h.inStream, h.requests, h.par, h.trace, h.out⟩

/-! ## The ROMs -/

/-- Settles O54: the tables are open parameters, and every operation keeps all of these. -/
theorem noOperationWritesARom : Obligations.NoOperationWritesARom := by
  intro i s t hexec
  obtain ⟨u, hu, -, hpar⟩ := everyOperationAnswersANextState i s
  obtain rfl : t = u := by simpa [hexec] using hu
  simp [hpar]

/-! ## Reads of controller registers -/

/-- The event is a register read (R8). -/
def isRegisterRead : Event → Bool
  | .rdr _ _ => true
  | _ => false

/-- The register reads in the trace of a state, oldest first. -/
def registerReads (s : State) : List Event := s.trace.filter isRegisterRead

@[simp] theorem isRegisterRead_cmd (b : Byte) : isRegisterRead (.cmd b) = false := rfl

@[simp] theorem isRegisterRead_dat (b : Byte) : isRegisterRead (.dat b) = false := rfl

@[simp] theorem isRegisterRead_rdd (b : Byte) : isRegisterRead (.rdd b) = false := rfl

@[simp] theorem isRegisterRead_rst (l : ResetLevel) : isRegisterRead (.rst l) = false := rfl

@[simp] theorem isRegisterRead_dly (n : Nat) : isRegisterRead (.dly n) = false := rfl

section

variable (s : State)

@[simp] theorem filter_isRegisterRead_dat (bs : List Byte) :
    (bs.map Event.dat).filter isRegisterRead = [] := by
  induction bs with
  | nil => rfl
  | cons b bs ih => simp [ih]

/-- The register reads among the events emitted are added, and no other operation on the state adds one. -/
@[simp] theorem registerReads_emit (es : List Event) :
    registerReads (s.emit es) = registerReads s ++ es.filter isRegisterRead := by
  simp [registerReads]

@[simp] theorem registerReads_respond (r : Response) :
    registerReads (s.respond r) = registerReads s := rfl

@[simp] theorem registerReads_writeCmode (m : ColorMode) :
    registerReads (s.writeCmode m) = registerReads s := rfl

@[simp] theorem registerReads_writeOrient (o : Orientation) :
    registerReads (s.writeOrient o) = registerReads s := rfl

@[simp] theorem registerReads_writeFsize (f : Byte) :
    registerReads (s.writeFsize f) = registerReads s := rfl

@[simp] theorem registerReads_writeTextColors (fg bg : Rgb) :
    registerReads (s.writeTextColors fg bg) = registerReads s := rfl

@[simp] theorem registerReads_dropColours (n : Nat) :
    registerReads (s.dropColours n) = registerReads s := rfl

@[simp] theorem registerReads_dropBytes (n : Nat) :
    registerReads (s.dropBytes n) = registerReads s := rfl

@[simp] theorem registerReads_refuse (v : Violation) :
    registerReads (s.refuse v) = registerReads s := rfl

@[simp] theorem registerReads_busReadData : registerReads s.busReadData = registerReads s := by
  simp [State.busReadData, registerReads]

/-! The named sequences of emissions and reads are made of commands, data, delays, RESET levels and data reads. -/

@[simp] theorem registerReads_setWindow (w : Window) :
    registerReads (s.setWindow w) = registerReads s := by
  simp [setWindow_eq_emit]

@[simp] theorem registerReads_setWriteWindow (w : Window) :
    registerReads (s.setWriteWindow w) = registerReads s := by
  simp [State.setWriteWindow]

@[simp] theorem registerReads_setReadWindow (w : Window) :
    registerReads (s.setReadWindow w) = registerReads s := by
  simp [State.setReadWindow]

@[simp] theorem registerReads_readToOut (n : Nat) :
    registerReads (State.readToOut n s) = registerReads s := by
  induction n generalizing s with
  | zero => rfl
  | succ n ih => exact (ih _).trans (registerReads_busReadData s)

@[simp] theorem registerReads_drawGlyph (r : TextRegs) (c : Byte) (x y : Nat) :
    registerReads (s.drawGlyph r c x y) = registerReads s := by
  simp [State.drawGlyph]

@[simp] theorem registerReads_drawCells (r : TextRegs) (y : Nat) (cells : List Cell) :
    registerReads (State.drawCells r y cells s) = registerReads s := by
  induction cells generalizing s with
  | nil => rfl
  | cons cell cells ih => exact (ih _).trans (registerReads_drawGlyph s r cell.1 cell.2 y)

@[simp] theorem registerReads_sendLut (l : LutTable) :
    registerReads (s.sendLut l) = registerReads s := by
  simp [State.sendLut]

@[simp] theorem registerReads_sendColorMode (m : ColorMode) :
    registerReads (s.sendColorMode m) = registerReads s := by
  cases m <;> simp [State.sendColorMode, lutFor]

@[simp] theorem registerReads_sleepOut : registerReads s.sleepOut = registerReads s := by
  simp [State.sleepOut]

@[simp] theorem registerReads_controllerReset :
    registerReads s.controllerReset = registerReads s := by
  simp [State.controllerReset]

end

/-- Where the checks of an operation pass, its effect makes no register read. -/
def EffectReadsNoRegister (s : State) (r : Except Violation State) : Prop :=
  ∀ t, r = .ok t → registerReads t = registerReads s

namespace EffectReadsNoRegister

variable {s t : State}

theorem bind {α : Type} {x : Except Violation α} {f : α → Except Violation State}
    (h : ∀ a, EffectReadsNoRegister s (f a)) : EffectReadsNoRegister s (x >>= f) := by
  intro t ht
  obtain ⟨a, -, hfa⟩ := bind_eq_ok.1 ht
  exact h a t hfa

theorem ok (h : registerReads t = registerReads s) : EffectReadsNoRegister s (.ok t) := by
  rintro _ ⟨⟩
  exact h

end EffectReadsNoRegister

/-- Whatever an operation answers, it makes no register read. -/
def ReadsNoRegister (s : State) (r : Result) : Prop :=
  ∀ t, r = .next t → registerReads t = registerReads s

namespace ReadsNoRegister

variable {s t : State}

theorem next (h : registerReads t = registerReads s) : ReadsNoRegister s (.next t) := by
  rintro _ ⟨⟩
  exact h

/-- A refusal appends no event (R214). -/
theorem perform {r : Except Violation State} (h : EffectReadsNoRegister s r) :
    ReadsNoRegister s (s.perform r) := by
  cases r with
  | ok t => exact .next (h t rfl)
  | error v => exact .next (registerReads_refuse s v)

end ReadsNoRegister

theorem putStringAt_readsNoRegister {r : TextRegs} {pad : Bool} {x y len : Nat} {s : State} :
    EffectReadsNoRegister s (putStringAt r pad x y len s) :=
  .bind fun _ => .bind fun _ => .bind fun _ => .ok (by simp)

/-- No effect is built from `State.busReadReg`: each case goes through the checks of its operation to the effect
behind them. -/
theorem exec_readsNoRegister (i : Instr) (s : State) : ReadsNoRegister s (exec i s) := by
  cases i with
  | setTextColors => exact .perform (.ok (by simp))
  | setColorMode | setOrientation | getWidth | getHeight | fill | readMemory | setFont | partialMode
  | scrollArea | scrollStart => exact .perform (.bind fun _ => .ok (by simp))
  | setWindow | setWriteWindow | setReadWindow =>
    exact .perform (.bind fun _ => .bind fun _ => .ok (by simp))
  | fillFromBuffer =>
    -- `List.map_take` would hide that the bytes sent are data events.
    exact .perform (.bind fun _ => .bind fun _ => .ok (by simp [-List.map_take]))
  | fillFromArray | setPixel | setPixel16 =>
    exact .perform (.bind fun _ => .bind fun _ => .bind fun _ => .ok (by simp))
  | putChar =>
    exact .perform (.bind fun _ => .bind fun _ => .bind fun _ => .bind fun _ => .ok (by simp))
  | putString | putStringClearToEol | putStringCentered =>
    exact .perform (.bind fun _ => putStringAt_readsNoRegister)
  | init | sleepIn | sleepOut | displayOn | displayOff | idleOn | idleOff | inversionOn | inversionOff
  | normalMode | gammaSet | teOn | teOff | wirePix12 | wirePix16 | wirePix18 | wireCmdSlpin
  | wireCmdSlpout | wireCmdDispon | wireCmdDispoff | wireCmdNoron | wireCmdIdmon | wireCmdIdmoff
  | wireCmdInvon | wireCmdInvoff | wireCmdCaset | wireCmdPaset | wireCmdRamwr | wireCmdRamrd
  | wireCmdMadctl | wireCmdColmod | wireCmdRgbset | wireCmdPtlon | wireCmdPtlar | wireCmdVscrdef
  | wireCmdVscrsadd | wireCmdGamset | wireCmdTeon | wireCmdTeoff => exact .next (by simp)

/-- An operation only appends to the trace: its effect does, and its refusal leaves it (R214). -/
theorem exec_appends_to_trace {i : Instr} {s t : State} (hexec : exec i s = .next t) :
    s.trace <+: t.trace := by
  obtain ⟨u, hu, hcases⟩ := exec_runsOrRefuses i s
  obtain rfl : t = u := by simpa [hexec] using hu
  obtain hkeeps | ⟨v, rfl⟩ := hcases
  · exact hkeeps.trace
  · exact ⟨[], List.append_nil _⟩

/-- Settles O56: the trace grows and its register reads stay, so none is among the events appended. -/
theorem noOperationReadsAControllerRegister : Obligations.NoOperationReadsAControllerRegister := by
  intro i s t hexec
  obtain ⟨es, hes⟩ := exec_appends_to_trace hexec
  have hkept : registerReads t = registerReads s := exec_readsNoRegister i s t hexec
  have hnone : es.filter isRegisterRead = [] := by simpa [registerReads, ← hes] using hkept
  refine ⟨es, hes.symm, ?_⟩
  rintro _ he k v rfl
  exact List.filter_eq_nil_iff.1 hnone _ he rfl

/-! ## The high byte of a colour -/

/-- The colour with bits [31:24] cleared. -/
def clearHigh (p : Colour) : Colour := widen (dropHigh p)

/-- Colours that agree on bits [23:0] are the same once the high byte is cleared. -/
theorem clearHigh_congr {p q : Colour} (h : p.extractLsb' 0 24 = q.extractLsb' 0 24) :
    clearHigh p = clearHigh q :=
  congrArg widen h

/-! Every channel lies below the high byte (R36), and the packings read a colour through its channels only. -/

theorem extractLsb'_clearHigh (p : Colour) {k n : Nat} (hk : k + n ≤ 24) :
    (clearHigh p).extractLsb' k n = p.extractLsb' k n := by
  ext b hb
  have hbit : k + b < 24 := by omega
  simp [clearHigh, widen, dropHigh, hbit]
  omega

theorem red_clearHigh (p : Colour) : red (clearHigh p) = red p := extractLsb'_clearHigh p (by decide)

theorem green_clearHigh (p : Colour) : green (clearHigh p) = green p :=
  extractLsb'_clearHigh p (by decide)

theorem blue_clearHigh (p : Colour) : blue (clearHigh p) = blue p :=
  extractLsb'_clearHigh p (by decide)

theorem dropHigh_clearHigh (p : Colour) : dropHigh (clearHigh p) = dropHigh p :=
  extractLsb'_clearHigh p (by decide)

theorem enc12_clearHigh (p q : Colour) : enc12 (clearHigh p) (clearHigh q) = enc12 p q := by
  simp [enc12, red_clearHigh, green_clearHigh, blue_clearHigh]

theorem enc16_clearHigh (p : Colour) : enc16 (clearHigh p) = enc16 p := by
  simp [enc16, red_clearHigh, green_clearHigh, blue_clearHigh]

theorem enc18_clearHigh (p : Colour) : enc18 (clearHigh p) = enc18 p := by
  simp [enc18, red_clearHigh, green_clearHigh, blue_clearHigh]

theorem fillBytes_clearHigh (m : ColorMode) (j : Nat) (p : Colour) :
    fillBytes m j (clearHigh p) = fillBytes m j p := by
  cases m <;> simp [fillBytes, enc12_clearHigh, enc16_clearHigh, enc18_clearHigh]

theorem enc12Pairs_clearHigh (ps : List Colour) : enc12Pairs (ps.map clearHigh) = enc12Pairs ps := by
  induction ps using enc12Pairs.induct with
  | case1 p0 p1 ps ih => simp [enc12Pairs, enc12_clearHigh, ih]
  | case2 ps hshort =>
    match ps, hshort with
    | [], _ => rfl
    | [_], _ => rfl
    | p0 :: p1 :: ps, hshort => exact absurd rfl (hshort p0 p1 ps)

theorem encPixels_clearHigh (m : ColorMode) (ps : List Colour) :
    encPixels m (ps.map clearHigh) = encPixels m ps := by
  cases m <;>
    simp [encPixels, enc12Pairs_clearHigh, List.flatMap_map, enc16_clearHigh, enc18_clearHigh]

/-- The instruction with the high byte of its colour operands cleared. -/
def clearColours : Instr → Instr
  | .fill x0 y0 x1 y1 p => .fill x0 y0 x1 y1 (clearHigh p)
  | .setPixel x y p => .setPixel x y (clearHigh p)
  | .setTextColors fg bg => .setTextColors (clearHigh fg) (clearHigh bg)
  | .wirePix12 p0 p1 => .wirePix12 (clearHigh p0) (clearHigh p1)
  | .wirePix16 p => .wirePix16 (clearHigh p)
  | .wirePix18 p => .wirePix18 (clearHigh p)
  | i => i

/-- Each operation with a colour operand packs it, or stores its low 24 bits. -/
theorem exec_clearColours (i : Instr) (s : State) : exec (clearColours i) s = exec i s := by
  cases i with
  | fill => simp only [clearColours, exec, execFill, fillBytes_clearHigh]
  | setPixel x y p =>
    have hpixel (m : ColorMode) : encPixels m [clearHigh p] = encPixels m [p] :=
      encPixels_clearHigh m [p]
    simp only [clearColours, exec, execSetPixel, hpixel]
  | setTextColors => simp only [clearColours, exec, execSetTextColors, dropHigh_clearHigh]
  | wirePix12 => simp only [clearColours, exec, execWirePix12, enc12_clearHigh]
  | wirePix16 => simp only [clearColours, exec, execWirePix16, enc16_clearHigh]
  | wirePix18 => simp only [clearColours, exec, execWirePix18, enc18_clearHigh]
  | _ => rfl

theorem exec_congr_clearColours {i j : Instr} (h : clearColours i = clearColours j) (s : State) :
    exec i s = exec j s := by
  rw [← exec_clearColours i, h, exec_clearColours j]

/-! ### Arrays of colours -/

/-- The data FILL_FROM_ARRAY packs from the array `cs`, behind all its checks, in their order (R131). -/
def arrayData (s : State) (w : Window) (cs : List Colour) : Except Violation (List Byte) := do
  let m ← checkPixels s w
  checkStream (pixelCount w) cs.length
  encPixels m (cs.take (pixelCount w))

/-- FILL_FROM_ARRAY reads the array through `arrayData`, and leaves what it does not read. -/
theorem exec_fillFromArray (s : State) (cs : List Colour) (x0 y0 x1 y1 : Half) :
    exec (.fillFromArray x0 y0 x1 y1) { s with inStream := .colours cs } =
      State.perform { s with inStream := .colours cs } ((fun bs =>
        (State.setWriteWindow { s with inStream := .colours (cs.drop (pixelCount (windowOf x0 y0 x1 y1))) }
          (windowOf x0 y0 x1 y1)).send bs) <$> arrayData s (windowOf x0 y0 x1 y1) cs) := by
  have hchecks : checkPixels { s with inStream := .colours cs } (windowOf x0 y0 x1 y1) =
      checkPixels s (windowOf x0 y0 x1 y1) := rfl
  simp only [exec, execFillFromArray, arrayData, hchecks, map_bind]
  rfl

theorem arrayData_clearHigh (s : State) (w : Window) (cs : List Colour) :
    arrayData s w (cs.map clearHigh) = arrayData s w cs := by
  simp only [arrayData, List.length_map, ← List.map_take, encPixels_clearHigh]

/-- Arrays that agree on bits [23:0] element by element are packed alike, or refused alike. -/
theorem arrayData_congr {cs ds : List Colour}
    (h : cs.map (fun p => p.extractLsb' 0 24) = ds.map (fun p => p.extractLsb' 0 24))
    (s : State) (w : Window) : arrayData s w cs = arrayData s w ds := by
  have hclear : cs.map clearHigh = ds.map clearHigh :=
    List.map_map.symm.trans ((congrArg (List.map widen) h).trans List.map_map)
  calc arrayData s w cs = arrayData s w (cs.map clearHigh) := (arrayData_clearHigh s w cs).symm
    _ = arrayData s w (ds.map clearHigh) := by rw [hclear]
    _ = arrayData s w ds := arrayData_clearHigh s w ds

/-- Settles O30: clearing the high byte makes the operands equal, and the data packed from the arrays. -/
theorem theHighColourByteIsIgnored : Obligations.TheHighColourByteIsIgnored := by
  refine ⟨fun p => ⟨rfl, rfl, rfl⟩, ?_, ?_⟩
  · intro p q p' q' hagree hagree' s x0 y0 x1 y1
    have hp : clearHigh p = clearHigh q := clearHigh_congr hagree
    have hp' : clearHigh p' = clearHigh q' := clearHigh_congr hagree'
    refine ⟨?_, ?_, ?_, ?_, ?_, ?_⟩ <;>
      exact exec_congr_clearColours (by simp only [clearColours, hp, hp']) s
  · intro s cs ds x0 y0 x1 y1 hagree
    simp only [exec_fillFromArray, arrayData_congr hagree]
    cases arrayData s (windowOf x0 y0 x1 y1) ds with
    | ok bs => exact ⟨_, .colours (ds.drop (pixelCount (windowOf x0 y0 x1 y1))), rfl, rfl⟩
    | error v => exact ⟨_, .colours ds, rfl, rfl⟩

end Sys2Proof.Proofs
end

section
/-! PROOFS. 30_encoding.md: request frames and wire formats. Each format's reader accepts exactly the field bytes the
encoder writes (`frame…_eq_ok`), so decoder and encoder agree over R61's table. Behind them the packings in bit
slices, the wire rows as one command with its parameter bytes, and SET_PIXEL as the FILL of one pixel. -/

namespace Sys2Proof.Proofs

open Sys2Proof.Machine Sys2Proof.Laws

/-! ## Fields in frame order (R60) -/

@[simp] theorem be16_hi8_lo8 (v : Half) : be16 (hi8 v) (lo8 v) = v :=
  (BitVec.extractLsb'_append_extractLsb'_eq_extractLsb' rfl).trans BitVec.extractLsb'_eq_self

@[simp] theorem bytes16_be16 (h l : Byte) : bytes16 (be16 h l) = [h, l] :=
  congrArg₂ (fun a b => [a, b]) BitVec.extractLsb'_append_eq_left BitVec.extractLsb'_append_eq_right

@[simp] theorem be32_bytes (v : Colour) :
    be32 (v.extractLsb' 24 8) (v.extractLsb' 16 8) (v.extractLsb' 8 8) (v.extractLsb' 0 8) = v := by
  have h16 : v.extractLsb' 24 8 ++ v.extractLsb' 16 8 = v.extractLsb' 16 16 :=
    BitVec.extractLsb'_append_extractLsb'_eq_extractLsb' rfl
  have h8 : v.extractLsb' 16 16 ++ v.extractLsb' 8 8 = v.extractLsb' 8 24 :=
    BitVec.extractLsb'_append_extractLsb'_eq_extractLsb' rfl
  unfold be32
  rw [h16, h8]
  exact (BitVec.extractLsb'_append_extractLsb'_eq_extractLsb' rfl).trans BitVec.extractLsb'_eq_self

/-- A byte behind the lowest one is a byte of what stands in front of the lowest one. -/
theorem extractLsb'_append_byte {n : Nat} (x : BitVec n) (d : Byte) (k : Nat) :
    (x ++ d).extractLsb' (k + 8) 8 = x.extractLsb' k 8 := by
  rw [BitVec.extractLsb'_append_eq_of_le (Nat.le_add_left 8 k), Nat.add_sub_cancel]

@[simp] theorem bytes32_be32 (a b c d : Byte) : bytes32 (be32 a b c d) = [a, b, c, d] := by
  have hc : (a ++ b ++ c ++ d).extractLsb' 8 8 = c :=
    (extractLsb'_append_byte _ d 0).trans BitVec.extractLsb'_append_eq_right
  have hb : (a ++ b ++ c ++ d).extractLsb' 16 8 = b :=
    (extractLsb'_append_byte _ d 8).trans
      ((extractLsb'_append_byte _ c 0).trans BitVec.extractLsb'_append_eq_right)
  have ha : (a ++ b ++ c ++ d).extractLsb' 24 8 = a :=
    (extractLsb'_append_byte _ d 16).trans
      ((extractLsb'_append_byte _ c 8).trans BitVec.extractLsb'_append_eq_left)
  have hd : (a ++ b ++ c ++ d).extractLsb' 0 8 = d := BitVec.extractLsb'_append_eq_right
  unfold bytes32 be32
  rw [ha, hb, hc, hd]

/-! ## Formats: what each reader accepts, and that none of them refuses a selector -/

section

variable {op op' : Byte} {fs : List Byte} {i : Instr}

theorem frameN_eq_ok {j : Instr} : frameN op j fs = .ok i ↔ j = i ∧ [] = fs := by
  cases fs <;> simp [frameN]

theorem frameB_eq_ok {mk : Byte → Instr} : frameB op mk fs = .ok i ↔ ∃ a, mk a = i ∧ [a] = fs := by
  constructor
  · unfold frameB
    split <;> rintro ⟨⟩
    exact ⟨_, rfl, rfl⟩
  · rintro ⟨a, rfl, rfl⟩
    rfl

theorem frameI_eq_ok {mk : Byte → Byte → Instr} :
    frameI op mk fs = .ok i ↔ ∃ a b, mk a b = i ∧ [a, b] = fs := by
  constructor
  · unfold frameI
    split <;> rintro ⟨⟩
    exact ⟨_, _, rfl, rfl⟩
  · rintro ⟨a, b, rfl, rfl⟩
    rfl

theorem frameW_eq_ok {mk : Half → Half → Half → Half → Instr} :
    frameW op mk fs = .ok i ↔ ∃ x0 y0 x1 y1, mk x0 y0 x1 y1 = i ∧
      bytes16 x0 ++ bytes16 y0 ++ bytes16 x1 ++ bytes16 y1 = fs := by
  constructor
  · unfold frameW
    split <;> rintro ⟨⟩
    exact ⟨_, _, _, _, rfl, by simp⟩
  · rintro ⟨x0, y0, x1, y1, rfl, rfl⟩
    simp [frameW, bytes16]

theorem frameWC_eq_ok {mk : Half → Half → Half → Half → Colour → Instr} :
    frameWC op mk fs = .ok i ↔ ∃ x0 y0 x1 y1 color, mk x0 y0 x1 y1 color = i ∧
      bytes16 x0 ++ bytes16 y0 ++ bytes16 x1 ++ bytes16 y1 ++ bytes32 color = fs := by
  constructor
  · unfold frameWC
    split <;> rintro ⟨⟩
    exact ⟨_, _, _, _, _, rfl, by simp⟩
  · rintro ⟨x0, y0, x1, y1, color, rfl, rfl⟩
    simp [frameWC, bytes16, bytes32]

theorem framePC_eq_ok {mk : Half → Half → Colour → Instr} :
    framePC op mk fs = .ok i ↔ ∃ x y color, mk x y color = i ∧
      bytes16 x ++ bytes16 y ++ bytes32 color = fs := by
  constructor
  · unfold framePC
    split <;> rintro ⟨⟩
    exact ⟨_, _, _, rfl, by simp⟩
  · rintro ⟨x, y, color, rfl, rfl⟩
    simp [framePC, bytes16, bytes32]

theorem framePH_eq_ok {mk : Half → Half → Half → Instr} :
    framePH op mk fs = .ok i ↔ ∃ x y v, mk x y v = i ∧
      bytes16 x ++ bytes16 y ++ bytes16 v = fs := by
  constructor
  · unfold framePH
    split <;> rintro ⟨⟩
    exact ⟨_, _, _, rfl, by simp⟩
  · rintro ⟨x, y, v, rfl, rfl⟩
    simp [framePH, bytes16]

theorem frameCC_eq_ok {mk : Colour → Colour → Instr} :
    frameCC op mk fs = .ok i ↔ ∃ fg bg, mk fg bg = i ∧ bytes32 fg ++ bytes32 bg = fs := by
  constructor
  · unfold frameCC
    split <;> rintro ⟨⟩
    exact ⟨_, _, rfl, by simp⟩
  · rintro ⟨fg, bg, rfl, rfl⟩
    simp [frameCC, bytes32]

theorem frameCH_eq_ok {mk : Byte → Half → Half → Instr} :
    frameCH op mk fs = .ok i ↔ ∃ c x y, mk c x y = i ∧ [c] ++ bytes16 x ++ bytes16 y = fs := by
  constructor
  · unfold frameCH
    split <;> rintro ⟨⟩
    exact ⟨_, _, _, rfl, by simp⟩
  · rintro ⟨c, x, y, rfl, rfl⟩
    simp [frameCH, bytes16]

theorem frameY1_eq_ok {mk : Half → Instr} :
    frameY1 op mk fs = .ok i ↔ ∃ y, mk y = i ∧ bytes16 y = fs := by
  constructor
  · unfold frameY1
    split <;> rintro ⟨⟩
    exact ⟨_, rfl, by simp⟩
  · rintro ⟨y, rfl, rfl⟩
    simp [frameY1, bytes16]

theorem frameY2_eq_ok {mk : Half → Half → Instr} :
    frameY2 op mk fs = .ok i ↔ ∃ y v, mk y v = i ∧ bytes16 y ++ bytes16 v = fs := by
  constructor
  · unfold frameY2
    split <;> rintro ⟨⟩
    exact ⟨_, _, rfl, by simp⟩
  · rintro ⟨y, v, rfl, rfl⟩
    simp [frameY2, bytes16]

/-! A reader answers its instruction or a wrong length: it never calls a selector unassigned. -/

@[simp] theorem frameN_ne_unassigned {j : Instr} : frameN op j fs ≠ .error (.unassigned op') := by
  unfold frameN
  split <;> simp

@[simp] theorem frameB_ne_unassigned {mk : Byte → Instr} :
    frameB op mk fs ≠ .error (.unassigned op') := by
  unfold frameB
  split <;> simp

@[simp] theorem frameI_ne_unassigned {mk : Byte → Byte → Instr} :
    frameI op mk fs ≠ .error (.unassigned op') := by
  unfold frameI
  split <;> simp

@[simp] theorem frameW_ne_unassigned {mk : Half → Half → Half → Half → Instr} :
    frameW op mk fs ≠ .error (.unassigned op') := by
  unfold frameW
  split <;> simp

@[simp] theorem frameWC_ne_unassigned {mk : Half → Half → Half → Half → Colour → Instr} :
    frameWC op mk fs ≠ .error (.unassigned op') := by
  unfold frameWC
  split <;> simp

@[simp] theorem framePC_ne_unassigned {mk : Half → Half → Colour → Instr} :
    framePC op mk fs ≠ .error (.unassigned op') := by
  unfold framePC
  split <;> simp

@[simp] theorem framePH_ne_unassigned {mk : Half → Half → Half → Instr} :
    framePH op mk fs ≠ .error (.unassigned op') := by
  unfold framePH
  split <;> simp

@[simp] theorem frameCC_ne_unassigned {mk : Colour → Colour → Instr} :
    frameCC op mk fs ≠ .error (.unassigned op') := by
  unfold frameCC
  split <;> simp

@[simp] theorem frameCH_ne_unassigned {mk : Byte → Half → Half → Instr} :
    frameCH op mk fs ≠ .error (.unassigned op') := by
  unfold frameCH
  split <;> simp

@[simp] theorem frameY1_ne_unassigned {mk : Half → Instr} :
    frameY1 op mk fs ≠ .error (.unassigned op') := by
  unfold frameY1
  split <;> simp

@[simp] theorem frameY2_ne_unassigned {mk : Half → Half → Instr} :
    frameY2 op mk fs ≠ .error (.unassigned op') := by
  unfold frameY2
  split <;> simp

end

/-! ## Decoder and encoder agree over R61's table -/

/-- Settles O1: the decoder's arm for the selector of `i` is the reader of `i`'s format, which accepts the field
bytes the encoder wrote. -/
theorem encodedRequestsDecodeToThemselves : Obligations.EncodedRequestsDecodeToThemselves := by
  intro i hi
  cases i with
  | getWidth | getHeight | sleepIn | sleepOut | displayOn | displayOff | idleOn | idleOff | inversionOn
  | inversionOff | normalMode | teOff | setColorMode | setOrientation | setFont | gammaSet | teOn
  | init => rfl
  | setWindow | setWriteWindow | setReadWindow | fillFromArray | fillFromBuffer | readMemory =>
    simp [decodeFrame, encode, frameW_eq_ok]
  | fill => simp [decodeFrame, encode, frameWC_eq_ok]
  | setPixel => simp [decodeFrame, encode, framePC_eq_ok]
  | setPixel16 | putString | putStringClearToEol => simp [decodeFrame, encode, frameS, framePH_eq_ok]
  | setTextColors => simp [decodeFrame, encode, frameCC_eq_ok]
  | putChar => simp [decodeFrame, encode, frameCH_eq_ok]
  | scrollStart => simp [decodeFrame, encode, frameY1_eq_ok]
  | partialMode | scrollArea | putStringCentered => simp [decodeFrame, encode, frameSC, frameY2_eq_ok]
  | _ => exact absurd hi Bool.false_ne_true

theorem eq_ofNat_of_toNat {op : Byte} {n : Nat} (h : op.toNat = n) : op = BitVec.ofNat 8 n := by
  rw [← h, BitVec.ofNat_toNat, BitVec.setWidth_eq]

/-- Settles O2: behind an assigned selector the format's reader gives the fields, whose bytes are the whole rest of
the frame; no other frame is read. -/
theorem acceptedFramesAreTheEncodedOnes : Obligations.AcceptedFramesAreTheEncodedOnes := by
  intro bs i hread
  cases bs with
  | nil => cases hread
  | cons op fs =>
    simp only [decodeFrame] at hread
    split at hread
    case h_36 => cases hread
    -- The 35 arms of the table differ in selector and format only: each reader's lemma gives its fields.
    all_goals
      obtain rfl := eq_ofNat_of_toNat ‹op.toNat = _›
      revert hread
      simp only [frameS, frameSC, frameN_eq_ok, frameB_eq_ok, frameI_eq_ok, frameW_eq_ok, frameWC_eq_ok,
        framePC_eq_ok, framePH_eq_ok, frameCC_eq_ok, frameCH_eq_ok, frameY1_eq_ok, frameY2_eq_ok,
        forall_exists_index, and_imp]
      intros
      subst_vars
      exact ⟨rfl, rfl⟩

/-- Settles O3: each frame is what the encoder writes for its operation, so O1 reads it back. -/
theorem writtenOutFramesDecode : Obligations.WrittenOutFramesDecode :=
  have reads (i : Instr) (hi : i.WellFormed) : decodeFrame (encode i) = .ok i :=
    encodedRequestsDecodeToThemselves i hi
  ⟨reads (.init 0 0) rfl, reads (.setColorMode 16) rfl, reads (.setOrientation 2) rfl, reads .getWidth rfl,
    reads (.setWindow 1 2 259 4) rfl, reads (.fill 0 0 1 0 0xFFF08020#32) rfl,
    reads (.setPixel16 5 7 0x11AA#16) rfl, reads (.putChar 0x41#8 10 20) rfl,
    reads (.putStringCentered 100 5) rfl, reads (.scrollArea 20 50) rfl, reads (.scrollStart 50) rfl⟩

/-! ## The request port -/

/-- The 35 selectors of R61. -/
def assignedSelectors : List Nat :=
  [0x00, 0x01, 0x02, 0x03, 0x04, 0x10, 0x11, 0x12, 0x20, 0x21, 0x22, 0x23, 0x24, 0x25, 0x30, 0x31, 0x32,
    0x33, 0x34, 0x35, 0x40, 0x41, 0x42, 0x43, 0x44, 0x45, 0x46, 0x47, 0x48, 0x49, 0x4A, 0x4B, 0x4C, 0x4D,
    0x4E]

/-- The decoder calls a selector unassigned in its last arm only, whatever follows the selector (R73). -/
theorem decodeFrame_eq_unassigned {op : Byte} {fs : List Byte} :
    decodeFrame (op :: fs) = .error (.unassigned op) ↔ op.toNat ∉ assignedSelectors := by
  simp only [decodeFrame]
  split
  case h_36 => simp_all [assignedSelectors]
  all_goals simp [assignedSelectors, frameS, frameSC, *]

/-- A step is refused where the first frame spells no operation, and nowhere else. -/
theorem step_eq_refused {s : State} {r : Refusal} :
    step s = .refused r ↔ ∃ q rest e, s.requests = q :: rest ∧ decodeFrame q.frame = .error e ∧
      .badFrame e = r := by
  unfold step
  cases hreq : s.requests with
  | nil => simp
  | cons q rest =>
    cases hdec : decodeFrame q.frame with
    | error e => simp [hdec]
    | ok i =>
      obtain ⟨t, hexec, -⟩ := exec_runsOrRefuses i (s.begin q.input rest)
      simp [hdec, hexec]

/-- Settles O4: the refusal at the port is the decoder's, and it names the selector where the decoder does. -/
theorem unassignedSelectorsAreRefusedAtThePort : Obligations.UnassignedSelectorsAreRefusedAtThePort := by
  intro s op fs input reqs hreq
  calc step s = .refused (.badFrame (.unassigned op))
    _ ↔ decodeFrame (op :: fs) = .error (.unassigned op) := by simp [step_eq_refused, hreq]
    _ ↔ op.toNat ∉ assignedSelectors := decodeFrame_eq_unassigned

theorem decodeTableWord_eq_some {nbits w : Nat} {i : Instr} :
    decodeTableWord nbits w = some i ↔ decodeFrame (tableFrame nbits w) = .ok i := by
  unfold decodeTableWord
  cases decodeFrame (tableFrame nbits w) <;> simp

/-- Settles O6: the word's frame is the first request, and the step that takes it off the list leaves the requests
as they were. -/
theorem fetchedTableWordRunsNext : Obligations.FetchedTableWordRunsNext := fun s nbits w i hword =>
  stepRunsTheDecodedRequest (s.withFetchWord nbits w) _ _ _ i rfl (decodeTableWord_eq_some.1 hword)

/-! ## Packings in bit slices (R64 to R66) -/

/-- A mask of the top `n` bits keeps them and clears the rest. -/
theorem and_topMask {n m : Nat} (b : BitVec (n + m)) :
    b &&& (BitVec.allOnes n ++ 0#m) = b.extractLsb' m n ++ 0#m := by
  ext k hk
  by_cases hlow : k < m
  · simp [BitVec.getElem_append, hlow]
  · have hback : m + (k - m) = k := by omega
    simp [BitVec.getElem_append, hlow, hback, BitVec.getLsbD_eq_getElem hk]

/-- A slice above the zeros that a left shift brings in is the slice that was shifted there. -/
theorem extractLsb'_shiftLeft {w : Nat} (b : BitVec w) {a c n : Nat} (h : c + a + n ≤ w) :
    (b <<< c).extractLsb' (c + a) n = b.extractLsb' a n := by
  ext k hk
  have hin : c + a + k < w := by omega
  have habove : ¬c + a + k < c := by omega
  have hback : c + a + k - c = a + k := by omega
  rw [BitVec.getElem_extractLsb', BitVec.getElem_extractLsb', BitVec.getLsbD_shiftLeft]
  simp only [hin, habove, hback, decide_true, decide_false, Bool.not_false, Bool.true_and]

/-- Top bits and low bits that do not overlap are put side by side. -/
theorem append_zero_or_zero_append {n m : Nat} (x : BitVec n) (y : BitVec m) :
    x ++ 0#m ||| 0#n ++ y = x ++ y := by
  rw [BitVec.or_append, BitVec.or_zero, BitVec.zero_or]

/-- The two nibbles of a 12-bit byte (R72). -/
theorem nibbles_eq_append (hi lo : Byte) :
    nibbles hi lo = hi.extractLsb' 4 4 ++ lo.extractLsb' 4 4 := by
  have htop : hi &&& 0xF0#8 = hi.extractLsb' 4 4 ++ 0#4 := and_topMask (n := 4) (m := 4) hi
  have hlow : lo >>> 4 = 0#4 ++ lo.extractLsb' 4 4 := BitVec.ushiftRight_eq_extractLsb'_of_lt (by decide)
  rw [nibbles, htop, hlow]
  exact append_zero_or_zero_append _ _

/-- Settles O9: each byte of ENC12 is two nibbles. -/
theorem enc12ConcatenatesHighNibbles : Obligations.Enc12ConcatenatesHighNibbles := by
  intro p0 p1
  simp only [enc12, nibbles_eq_append]

/-- The first byte of ENC16: five bits of the one channel, then three of the other. -/
theorem topFive_or_topThree (hi lo : Byte) :
    (hi &&& 0xF8#8) ||| (lo >>> 5) = hi.extractLsb' 3 5 ++ lo.extractLsb' 5 3 := by
  have htop : hi &&& 0xF8#8 = hi.extractLsb' 3 5 ++ 0#3 := and_topMask (n := 5) (m := 3) hi
  have hlow : lo >>> 5 = 0#5 ++ lo.extractLsb' 5 3 := BitVec.ushiftRight_eq_extractLsb'_of_lt (by decide)
  rw [htop, hlow]
  exact append_zero_or_zero_append _ _

/-- The second byte of ENC16: bits [4:2] of the one channel, then the top five of the other. -/
theorem nextThree_or_topFive (hi lo : Byte) :
    ((hi <<< 3) &&& 0xE0#8) ||| (lo >>> 3) = hi.extractLsb' 2 3 ++ lo.extractLsb' 3 5 := by
  have hshift : (hi <<< 3).extractLsb' 5 3 = hi.extractLsb' 2 3 :=
    extractLsb'_shiftLeft (c := 3) (a := 2) hi (by decide)
  have hnext : (hi <<< 3) &&& 0xE0#8 = hi.extractLsb' 2 3 ++ 0#5 :=
    hshift ▸ and_topMask (n := 3) (m := 5) (hi <<< 3)
  have hlow : lo >>> 3 = 0#3 ++ lo.extractLsb' 3 5 := BitVec.ushiftRight_eq_extractLsb'_of_lt (by decide)
  rw [hnext, hlow]
  exact append_zero_or_zero_append _ _

/-- Settles O10: each byte of ENC16 is a slice of one channel beside a slice of the next. -/
theorem enc16PacksFiveSixFive : Obligations.Enc16PacksFiveSixFive := by
  intro p
  simp only [enc16, topFive_or_topThree, nextThree_or_topFive]

theorem and_0xFC_eq_append (b : Byte) : b &&& 0xFC#8 = b.extractLsb' 2 6 ++ 0#2 :=
  and_topMask (n := 6) (m := 2) b

/-- Settles O11: the mask keeps the top six bits of each channel. -/
theorem enc18MasksToTopSixBits : Obligations.Enc18MasksToTopSixBits := by
  intro p
  simp only [enc18, and_0xFC_eq_append]

/-! ## Wire rows (R64 to R70) -/

section

variable (s : State)

/-- A command without parameters is its command byte, and changes nothing else (R68). -/
theorem next_busCmd (c : Cmd) : (.next (s.busCmd c) : Result) =
    .next { s with trace := s.trace ++ [.cmd (cmdByte s.par c)] } := rfl

/-- Data bytes alone: they are appended in order, and nothing else changes. -/
theorem next_send (bs : List Byte) : (.next (s.send bs) : Result) =
    .next { s with trace := s.trace ++ bs.map .dat } := rfl

/-- A command with parameters is its command byte, then the parameter bytes, and changes nothing else (R68). -/
theorem next_wireCmd (c : Cmd) (ps : List Byte) : (.next (s.wireCmd c ps) : Result) =
    .next { s with trace := s.trace ++ .cmd (cmdByte s.par c) :: ps.map .dat } := by
  rw [wireCmd_eq_emit]
  rfl

end

/-- Settles O46: each row is the command of its name with the parameter bytes R70 lays out. -/
theorem wireCommandRowsEmitTheirFrames : Obligations.WireCommandRowsEmitTheirFrames := fun s a b c v =>
  ⟨next_busCmd s .slpin, next_busCmd s .slpout, next_busCmd s .dispon, next_busCmd s .dispoff,
    next_busCmd s .noron, next_busCmd s .idmon, next_busCmd s .idmoff, next_busCmd s .invon,
    next_busCmd s .invoff, next_busCmd s .ramwr, next_busCmd s .ramrd, next_busCmd s .ptlon,
    next_busCmd s .teoff,
    next_wireCmd s .caset (bytes16 a ++ bytes16 b),
    next_wireCmd s .paset (bytes16 a ++ bytes16 b),
    next_wireCmd s .ptlar (bytes16 a ++ bytes16 b),
    next_wireCmd s .vscrdef (bytes16 a ++ bytes16 b ++ bytes16 c),
    next_wireCmd s .vscrsadd (bytes16 a),
    next_wireCmd s .gamset [v],
    next_wireCmd s .teon [v],
    next_wireCmd s .madctl [madctlVal s.par .landscape],
    next_wireCmd s .madctl [madctlVal s.par .landscapeReversed],
    next_wireCmd s .madctl [madctlVal s.par .portrait],
    next_wireCmd s .madctl [madctlVal s.par .portraitReversed],
    next_wireCmd s .colmod [pixfmtVal s.par .c12],
    next_wireCmd s .colmod [pixfmtVal s.par .c16],
    next_wireCmd s .colmod [pixfmtVal s.par .c18],
    lutBytes_lut12 s.par ▸ next_wireCmd s .rgbset (lutBytes s.par .lut12),
    lutBytes_lut16 s.par ▸ next_wireCmd s .rgbset (lutBytes s.par .lut16)⟩

/-- A slice of a slice is a slice of the whole. -/
theorem extractLsb'_extractLsb' {w : Nat} (x : BitVec w) {a n b m : Nat} (h : b + m ≤ n) :
    (x.extractLsb' a n).extractLsb' b m = x.extractLsb' (a + b) m := by
  ext k hk
  have hin : b + k < n := by omega
  simp [hin, Nat.add_assoc]

section

variable (p : Colour) {b m : Nat}

/-! Where the slices of the channels lie in the colour (R36). -/

theorem extractLsb'_red (h : b + m ≤ 8) : (red p).extractLsb' b m = p.extractLsb' (16 + b) m :=
  extractLsb'_extractLsb' p h

theorem extractLsb'_green (h : b + m ≤ 8) : (green p).extractLsb' b m = p.extractLsb' (8 + b) m :=
  extractLsb'_extractLsb' p h

theorem extractLsb'_blue (h : b + m ≤ 8) : (blue p).extractLsb' b m = p.extractLsb' b m := by
  rw [blue, extractLsb'_extractLsb' p h, Nat.zero_add]

end

/-- Settles O47: a pixel row sends the bytes of its packing (O9 to O11), each slice taken from the colour. -/
theorem wirePixelRowsEmitTheirBytes : Obligations.WirePixelRowsEmitTheirBytes := by
  intro s p q
  refine ⟨(next_send s (enc12 p q)).trans ?_, (next_send s (enc16 p)).trans ?_,
    (next_send s (enc18 p)).trans ?_⟩
  · simp [enc12ConcatenatesHighNibbles p q, extractLsb'_red, extractLsb'_green, extractLsb'_blue]
  · simp [enc16PacksFiveSixFive p, extractLsb'_red, extractLsb'_green, extractLsb'_blue]
  · simp [enc18MasksToTopSixBits p, extractLsb'_red, extractLsb'_green, extractLsb'_blue]

/-! ## SET_PIXEL and FILL (R76) -/

theorem pixelCount_windowOf_self (x y : Half) : pixelCount (windowOf x y x y) = 1 := by
  simp [pixelCount, windowOf]

/-- A window of one pixel is never inverted: only its range is left to check (R113). -/
theorem checkWindow_windowOf_self (o : Orientation) (x y : Half) :
    checkWindow o (windowOf x y x y) = checkRange o (windowOf x y x y) := by
  simp [checkWindow, checkOrder, require, windowOf]

/-- Packing one pixel is the even-count check of one pixel (V3), then FILL's data for it (R95, R130). -/
theorem encPixels_single (m : ColorMode) (color : Colour) :
    encPixels m [color] = (do checkEven m 1; return fillBytes m 1 color) := by
  cases m <;> simp [encPixels, checkEven, require, fillBytes]

/-- Settles O25: the two operations run the same checks in the same order, and send the same data. -/
theorem setPixelIsOnePixelFill : Obligations.SetPixelIsOnePixelFill := by
  intro s x y color
  simp only [exec, execSetPixel, execFill, checkPixels, checkWindow_windowOf_self, pixelCount_windowOf_self,
    encPixels_single, bind_assoc, pure_bind]

end Sys2Proof.Proofs
end

section
/-! PROOFS. 40_color_codec.md: what the packings keep of a colour, a sequence packed pair by pair, and
SET_COLOR_MODE. Masks are read as slices of the channels (`and_topMask`), so that both sides of R96 speak about the
same slices. -/

namespace Sys2Proof.Proofs

open Sys2Proof.Machine Sys2Proof.Laws

/-! ## Unpacking ENC16 (R96(d)) -/

/-- A left shift drops the top bits, whatever a mask did to them. -/
theorem and_lowMask_shiftLeft {n m : Nat} (b mask : BitVec (n + m))
    (hmask : mask.extractLsb' 0 n = BitVec.allOnes n) :
    (b &&& mask) <<< m = b.extractLsb' 0 n ++ 0#m := by
  have hlow : (b &&& mask).extractLsb' 0 n = b.extractLsb' 0 n := by
    rw [BitVec.extractLsb'_and, hmask, BitVec.and_allOnes]
  rw [← hlow]
  ext k hk
  by_cases h : k < m
  · simp [BitVec.getElem_append, h]
  · have hback : k - m < n + m := by omega
    simp [BitVec.getElem_append, h, BitVec.getLsbD_eq_getElem hback]

/-- The top three bits of a byte, moved down by three. -/
theorem and_0xE0_ushiftRight (b : Byte) :
    (b &&& 0xE0#8) >>> 3 = 0#3 ++ (b.extractLsb' 5 3 ++ 0#2) := by
  have hshift : (b &&& 0xE0#8) >>> 3 = 0#3 ++ (b &&& 0xE0#8).extractLsb' 3 5 :=
    BitVec.ushiftRight_eq_extractLsb'_of_lt (by decide)
  have htop : b.extractLsb' 3 5 &&& 0x1C#5 = (b.extractLsb' 3 5).extractLsb' 2 3 ++ 0#2 :=
    and_topMask (n := 3) (m := 2) _
  have hslice : (b.extractLsb' 3 5).extractLsb' 2 3 = b.extractLsb' 5 3 :=
    extractLsb'_extractLsb' b (by decide)
  rw [hshift, BitVec.extractLsb'_and, show (0xE0#8).extractLsb' 3 5 = 0x1C#5 from rfl, htop, hslice]

/-- The six bits ENC16 keeps of green stand in its two bytes in two threes. -/
theorem topSix_eq_append (b : Byte) : b.extractLsb' 2 6 = b.extractLsb' 5 3 ++ b.extractLsb' 2 3 :=
  (BitVec.extractLsb'_append_extractLsb'_eq_extractLsb' (start₁ := 2) (len₁ := 3) (len₂ := 3) rfl).symm

/-- Settles O12: each line of the unpacking takes back out of the two bytes the slices O10 puts there. -/
theorem enc16UnpacksToKeptBits : Obligations.Enc16UnpacksToKeptBits := by
  intro p b0 b1 henc
  obtain ⟨rfl, rfl⟩ : (red p).extractLsb' 3 5 ++ (green p).extractLsb' 5 3 = b0 ∧
      (green p).extractLsb' 2 3 ++ (blue p).extractLsb' 3 5 = b1 := by
    simpa [enc16PacksFiveSixFive p] using henc
  have topFive (b : Byte) : b &&& 0xF8#8 = b.extractLsb' 3 5 ++ 0#3 := and_topMask (n := 5) (m := 3) b
  refine ⟨?red, ?green, ?blue⟩
  case red =>
    rw [topFive, topFive, BitVec.extractLsb'_append_eq_left]
  case green =>
    have hhigh (b : Byte) : (b &&& 0x07#8) <<< 5 = b.extractLsb' 0 3 ++ 0#5 :=
      and_lowMask_shiftLeft (n := 3) (m := 5) b 0x07#8 rfl
    have hassoc (x y : BitVec 3) : x ++ (y ++ 0#2) = x ++ y ++ 0#2 := (BitVec.append_assoc ..).symm
    rw [hhigh, and_0xE0_ushiftRight, BitVec.extractLsb'_append_eq_right, BitVec.extractLsb'_append_eq_left,
      and_0xFC_eq_append, topSix_eq_append]
    exact (append_zero_or_zero_append _ _).trans (hassoc _ _)
  case blue =>
    have hlow (b : Byte) : (b &&& 0x1F#8) <<< 3 = b.extractLsb' 0 5 ++ 0#3 :=
      and_lowMask_shiftLeft (n := 5) (m := 3) b 0x1F#8 rfl
    rw [hlow, topFive, BitVec.extractLsb'_append_eq_right]

/-! ## Equal bytes and equal kept bits (R96(b), R96(c)) -/

theorem append_eq_append_iff {n m : Nat} {x x' : BitVec n} {y y' : BitVec m} :
    x ++ y = x' ++ y' ↔ x = x' ∧ y = y' := by
  refine ⟨fun h => ⟨?_, ?_⟩, fun ⟨hx, hy⟩ => hx ▸ hy ▸ rfl⟩
  · simpa [BitVec.extractLsb'_append_eq_left] using congrArg (BitVec.extractLsb' m n) h
  · simpa [BitVec.extractLsb'_append_eq_right] using congrArg (BitVec.extractLsb' 0 m) h

/-- A mask of the top `n` bits keeps exactly the slice of them. -/
theorem and_topMask_eq_iff {n m : Nat} {b c : BitVec (n + m)} :
    b &&& (BitVec.allOnes n ++ 0#m) = c &&& (BitVec.allOnes n ++ 0#m) ↔
      b.extractLsb' m n = c.extractLsb' m n := by
  rw [and_topMask, and_topMask, BitVec.append_left_inj]

/-- A colour is its four bytes (R60). -/
theorem colour_eq_iff {p q : Colour} : p = q ↔
    p.extractLsb' 24 8 = q.extractLsb' 24 8 ∧ red p = red q ∧ green p = green q ∧ blue p = blue q := by
  refine ⟨fun h => h ▸ ⟨rfl, rfl, rfl, rfl⟩, fun ⟨hhigh, hred, hgreen, hblue⟩ => ?_⟩
  unfold red at hred
  unfold green at hgreen
  unfold blue at hblue
  rw [← be32_bytes p, ← be32_bytes q, hhigh, hred, hgreen, hblue]

/-- A mask that clears the high byte masks the channels one by one (R36). -/
theorem and_mask_eq_iff {p q mask : Colour} (hmask : mask.extractLsb' 24 8 = 0#8) :
    p &&& mask = q &&& mask ↔ red p &&& red mask = red q &&& red mask ∧
      green p &&& green mask = green q &&& green mask ∧ blue p &&& blue mask = blue q &&& blue mask := by
  simp only [colour_eq_iff, red, green, blue, BitVec.extractLsb'_and, hmask, BitVec.and_zero, true_and]

/-- R96(b). -/
theorem enc12_eq_iff {p0 p1 q0 q1 : Colour} : enc12 p0 p1 = enc12 q0 q1 ↔
    p0 &&& 0xF0F0F0#32 = q0 &&& 0xF0F0F0#32 ∧ p1 &&& 0xF0F0F0#32 = q1 &&& 0xF0F0F0#32 := by
  have hnibble {b c : Byte} : b &&& 0xF0#8 = c &&& 0xF0#8 ↔ b.extractLsb' 4 4 = c.extractLsb' 4 4 :=
    and_topMask_eq_iff (n := 4) (m := 4)
  have hmask {p q : Colour} : p &&& 0xF0F0F0#32 = q &&& 0xF0F0F0#32 ↔ red p &&& 0xF0#8 = red q &&& 0xF0#8 ∧
      green p &&& 0xF0#8 = green q &&& 0xF0#8 ∧ blue p &&& 0xF0#8 = blue q &&& 0xF0#8 :=
    and_mask_eq_iff rfl
  simp only [enc12ConcatenatesHighNibbles p0 p1, enc12ConcatenatesHighNibbles q0 q1, List.cons.injEq,
    append_eq_append_iff, hmask, hnibble, and_true, and_assoc]

/-- R96(c) at 16 bits. -/
theorem enc16_eq_iff {p q : Colour} : enc16 p = enc16 q ↔ p &&& 0xF8FCF8#32 = q &&& 0xF8FCF8#32 := by
  have htopFive {b c : Byte} : b &&& 0xF8#8 = c &&& 0xF8#8 ↔ b.extractLsb' 3 5 = c.extractLsb' 3 5 :=
    and_topMask_eq_iff (n := 5) (m := 3)
  have htopSix {b c : Byte} : b &&& 0xFC#8 = c &&& 0xFC#8 ↔ b.extractLsb' 2 6 = c.extractLsb' 2 6 :=
    and_topMask_eq_iff (n := 6) (m := 2)
  have hmask {p q : Colour} : p &&& 0xF8FCF8#32 = q &&& 0xF8FCF8#32 ↔ red p &&& 0xF8#8 = red q &&& 0xF8#8 ∧
      green p &&& 0xFC#8 = green q &&& 0xFC#8 ∧ blue p &&& 0xF8#8 = blue q &&& 0xF8#8 :=
    and_mask_eq_iff rfl
  have hthrees {b c : Byte} : b.extractLsb' 2 6 = c.extractLsb' 2 6 ↔
      b.extractLsb' 5 3 = c.extractLsb' 5 3 ∧ b.extractLsb' 2 3 = c.extractLsb' 2 3 := by
    rw [topSix_eq_append, topSix_eq_append]
    exact append_eq_append_iff
  simp only [enc16PacksFiveSixFive p, enc16PacksFiveSixFive q, List.cons.injEq, append_eq_append_iff, hmask,
    htopFive, htopSix, hthrees, and_true, and_assoc]

/-- R96(c) at 18 bits. -/
theorem enc18_eq_iff {p q : Colour} : enc18 p = enc18 q ↔ p &&& 0xFCFCFC#32 = q &&& 0xFCFCFC#32 := by
  have hmask {p q : Colour} : p &&& 0xFCFCFC#32 = q &&& 0xFCFCFC#32 ↔ red p &&& 0xFC#8 = red q &&& 0xFC#8 ∧
      green p &&& 0xFC#8 = green q &&& 0xFC#8 ∧ blue p &&& 0xFC#8 = blue q &&& 0xFC#8 :=
    and_mask_eq_iff rfl
  simp only [enc18, List.cons.injEq, hmask, and_true]

/-- Settles O13: a packing and its mask keep the same slices of the channels. -/
theorem codecIsInjectiveOnKeptBits : Obligations.CodecIsInjectiveOnKeptBits :=
  ⟨fun _ _ => enc16_eq_iff, fun _ _ => enc18_eq_iff, fun _ _ _ _ => enc12_eq_iff⟩

/-! ## Sequences (R95) -/

/-- At 12 bits an even sequence packs. -/
theorem encPixels_c12_of_even {ps : List Colour} (h : ps.length % 2 = 0) :
    encPixels .c12 ps = .ok (enc12Pairs ps) := by
  simp [encPixels, checkEven, require, h]

/-- At 12 bits an odd sequence is V3. -/
theorem encPixels_c12_of_odd {ps : List Colour} (h : ps.length % 2 = 1) :
    encPixels .c12 ps = .error (.oddCount12 ps.length) := by
  simp [encPixels, checkEven, require, h]

theorem length_enc12Pairs : ∀ ps : List Colour, (enc12Pairs ps).length = 3 * (ps.length / 2)
  | [] => rfl
  | [_] => by simp [enc12Pairs]
  | p0 :: p1 :: ps => by
    have ih := length_enc12Pairs ps
    simp only [enc12Pairs, enc12, List.length_append, List.length_cons, List.length_nil, ih]
    omega

theorem length_flatMap_const {α : Type} {f : α → List Byte} {k : Nat} (h : ∀ a, (f a).length = k)
    (ps : List α) : (ps.flatMap f).length = k * ps.length := by
  simp [List.length_flatMap, h, Nat.mul_comm]

/-- Settles O14: a pixel has two bytes at 16 bits and three at 18, a pair has three at 12. -/
theorem packedLengthFollowsTheDepth : Obligations.PackedLengthFollowsTheDepth := by
  intro ps
  refine ⟨⟨_, rfl, length_flatMap_const (f := enc16) (fun _ => rfl) ps⟩,
    ⟨_, rfl, length_flatMap_const (f := enc18) (fun _ => rfl) ps⟩,
    fun heven => ⟨_, encPixels_c12_of_even heven, ?_⟩, encPixels_c12_of_odd⟩
  rw [length_enc12Pairs]
  omega

/-- The pixels of a list of pairs, in order. -/
def pixelsOf (pairs : List (Colour × Colour)) : List Colour := pairs.flatMap fun q => [q.1, q.2]

theorem length_pixelsOf_even (pairs : List (Colour × Colour)) : (pixelsOf pairs).length % 2 = 0 := by
  simp [pixelsOf]

theorem enc12Pairs_pixelsOf (pairs : List (Colour × Colour)) :
    enc12Pairs (pixelsOf pairs) = pairs.flatMap fun q => enc12 q.1 q.2 := by
  induction pairs with
  | nil => rfl
  | cons q pairs ih => exact congrArg (enc12 q.1 q.2 ++ ·) ih

/-- A packing of single pixels takes a pair one after the other. -/
theorem flatMap_pixelsOf (enc : Colour → List Byte) (pairs : List (Colour × Colour)) :
    (pixelsOf pairs).flatMap enc = pairs.flatMap fun q => enc q.1 ++ enc q.2 := by
  simp [pixelsOf, List.flatMap_assoc]

/-- Settles O15: at 12 bits a list of pairs is never odd; at the other depths the pixels pack one by one. -/
theorem evenSequencesPackPairByPair : Obligations.EvenSequencesPackPairByPair := by
  intro m pairs
  cases m with
  | c12 =>
    exact (encPixels_c12_of_even (length_pixelsOf_even pairs)).trans
      (congrArg Except.ok (enc12Pairs_pixelsOf pairs))
  | c16 => exact congrArg Except.ok (flatMap_pixelsOf enc16 pairs)
  | c18 => exact congrArg Except.ok (flatMap_pixelsOf enc18 pairs)

/-! ## SET_COLOR_MODE (R100) -/

/-- An operand that names a depth: the frames of that depth, then CMODE. -/
theorem exec_setColorMode_of_mode {mode : Byte} {m : ColorMode} (h : modeOf mode = some m) (s : State) :
    exec (.setColorMode mode) s = .next ((s.sendColorMode m).writeCmode m) := by
  simp [exec, execSetColorMode, checkMode_eq_ok.2 h]

/-- An operand that names no depth is V4. -/
theorem exec_setColorMode_of_no_mode {mode : Byte} (h : modeOf mode = none) (s : State) :
    exec (.setColorMode mode) s = .next (s.refuse (.badMode mode)) := by
  simp [exec, execSetColorMode, checkMode, h]

/-- A depth with a table: two commands, the table behind the second. -/
theorem sendColorMode_of_lut {m : ColorMode} {l : LutTable} (h : lutFor m = some l) (s : State) :
    s.sendColorMode m =
      (s.emit [.cmd s.par.cmd.colmod, .dat (pixfmtVal s.par m), .cmd s.par.cmd.rgbset]).emit
        ((lutBytes s.par l).map .dat) := by
  simp [State.sendColorMode, h, State.sendLut, cmdByte]

/-- A depth without a table: one command. -/
theorem sendColorMode_of_no_lut {m : ColorMode} (h : lutFor m = none) (s : State) :
    s.sendColorMode m = s.emit [.cmd s.par.cmd.colmod, .dat (pixfmtVal s.par m)] := by
  simp [State.sendColorMode, h, cmdByte]

/-- Settles O16: the operand names the depth or none, the depth names its table or none. -/
theorem setColorModeProgramsTheController : Obligations.SetColorModeProgramsTheController := by
  intro s
  refine ⟨?c12, ?c16, ?c18, ?other⟩
  case c12 =>
    rw [exec_setColorMode_of_mode (m := .c12) rfl, sendColorMode_of_lut rfl, lutBytes_lut12]
    rfl
  case c16 =>
    rw [exec_setColorMode_of_mode (m := .c16) rfl, sendColorMode_of_lut rfl, lutBytes_lut16]
    rfl
  case c18 =>
    rw [exec_setColorMode_of_mode (m := .c18) rfl, sendColorMode_of_no_lut rfl]
    rfl
  case other =>
    intro mode h12 h16 h18
    exact exec_setColorMode_of_no_mode (by simp [modeOf, h12, h16, h18]) s

end Sys2Proof.Proofs
end

section
/-! PROOFS. 41_addressing.md: the window operations, ORIENT and write transfers. Two runs that differ in ORIENT alone
are decided alike under equal extents, and have the same effect wherever both run (`exec_agreeButOrient`); every pixel
writer sends whole transfers on legal windows (`exec_sendsTransfers`). -/

namespace Sys2Proof.Proofs

open Sys2Proof.Machine Sys2Proof.Laws

/-! ## Windows and the read of ORIENT (R110 to R113) -/

/-- An operation that reads ORIENT and no other register meets V12 in one way. -/
theorem refusesUnwritten_orient {i : Instr} {s : State}
    (h : s.orient = .unwritten → exec i s = .next (s.refuse (.unwrittenState .orient))) :
    RefusesUnwritten i s [.orient] := by
  rintro ⟨r, hr, hunwritten⟩
  obtain rfl : r = .orient := by simpa using hr
  exact ⟨.orient, hr, hunwritten, h hunwritten⟩

theorem checkWindow_of_inverted {w : Window} (h : ¬(w.x0 ≤ w.x1 ∧ w.y0 ≤ w.y1)) (o : Orientation) :
    checkWindow o w = .error (.windowOrder w) :=
  bind_eq_error.2 (.inl (require_eq_error.2 ⟨h, rfl⟩))

theorem checkWindow_of_outside {o : Orientation} {w : Window} (horder : w.x0 ≤ w.x1 ∧ w.y0 ≤ w.y1)
    (h : ¬(w.x1 < logicalW o ∧ w.y1 < logicalH o)) :
    checkWindow o w = .error (.windowRange w (logicalW o) (logicalH o)) :=
  bind_eq_error.2 (.inr ⟨(), checkOrder_eq_ok.2 horder, require_eq_error.2 ⟨h, rfl⟩⟩)

/-- The answer of a window operation on `w` whose effect leads to `t`: the three differ in `t` alone. -/
def windowAnswer (s : State) (w : Window) (t : State) : Result :=
  s.perform do
    let o ← readReg .orient s.orient
    checkWindow o w
    return t

section

variable {s t : State} {w : Window} {o : Orientation}

theorem windowAnswer_of_unwritten (h : s.orient = .unwritten) :
    windowAnswer s w t = .next (s.refuse (.unwrittenState .orient)) := by
  simp [windowAnswer, h]

theorem windowAnswer_of_error {v : Violation} (ho : s.orient = .written o)
    (h : checkWindow o w = .error v) : windowAnswer s w t = .next (s.refuse v) := by
  simp [windowAnswer, ho, h]

theorem windowAnswer_of_legal (ho : s.orient = .written o) (h : checkWindow o w = .ok ()) :
    windowAnswer s w t = .next t := by
  simp [windowAnswer, ho, h]

end

/-- A window operation on a legal window has its effect. -/
theorem windowAnswer_windowOf {s : State} {o : Orientation} {x0 y0 x1 y1 : Half}
    (ho : s.orient = .written o) (h : WindowLegal o x0 y0 x1 y1) (t : State) :
    windowAnswer s (windowOf x0 y0 x1 y1) t = .next t :=
  windowAnswer_of_legal ho (checkWindow_eq_ok.2 h)

/-- How a window operation is refused: V12, V1, V2 (R113, R217). -/
theorem windowAnswer_refusals {i : Instr} {s t : State} {x0 y0 x1 y1 : Half}
    (hi : exec i s = windowAnswer s (windowOf x0 y0 x1 y1) t) :
    RefusesUnwritten i s [.orient] ∧ ∀ o, s.orient = .written o →
      (¬(x0.toNat ≤ x1.toNat ∧ y0.toNat ≤ y1.toNat) →
        exec i s = .next (s.refuse (.windowOrder ⟨x0.toNat, y0.toNat, x1.toNat, y1.toNat⟩))) ∧
      ((x0.toNat ≤ x1.toNat ∧ y0.toNat ≤ y1.toNat) → ¬WindowLegal o x0 y0 x1 y1 →
        exec i s = .next (s.refuse
          (.windowRange ⟨x0.toNat, y0.toNat, x1.toNat, y1.toNat⟩ (logicalW o) (logicalH o)))) := by
  rw [hi]
  have hunwritten : RefusesUnwritten i s [.orient] :=
    refusesUnwritten_orient fun hu => hi.trans (windowAnswer_of_unwritten hu)
  refine ⟨hunwritten, fun o ho => ⟨?_, ?_⟩⟩
  · intro hinverted
    exact windowAnswer_of_error ho (checkWindow_of_inverted hinverted o)
  · intro horder hillegal
    exact windowAnswer_of_error ho (checkWindow_of_outside horder fun h => hillegal ⟨horder, h⟩)

/-- Settles O17: the three operations are one check of the window in front of their frames. -/
theorem windowOperationsEmitTheirFrames : Obligations.WindowOperationsEmitTheirFrames := by
  intro s x0 y0 x1 y1
  refine ⟨fun o ho hlegal => ⟨?window, ?write, ?read⟩, ?refused⟩
  case window =>
    refine (windowAnswer_windowOf ho hlegal _).trans ?_
    rw [setWindow_windowOf]
    rfl
  case write =>
    refine (windowAnswer_windowOf ho hlegal (s.setWriteWindow (windowOf x0 y0 x1 y1))).trans ?_
    rw [State.setWriteWindow, setWindow_windowOf, busCmd_eq_emit, emit_emit, List.append_assoc]
    rfl
  case read =>
    refine (windowAnswer_windowOf ho hlegal (s.setReadWindow (windowOf x0 y0 x1 y1))).trans ?_
    rw [State.setReadWindow, setWindow_windowOf, busCmd_eq_emit, emit_emit, List.append_assoc]
    rfl
  case refused =>
    simp only [List.forall_mem_cons, List.not_mem_nil, IsEmpty.forall_iff, implies_true, and_true]
    exact ⟨windowAnswer_refusals rfl, windowAnswer_refusals rfl, windowAnswer_refusals rfl⟩

/-! ## SET_ORIENTATION and the extent queries (R116 to R120) -/

/-- An operand that names an orientation: its access-control byte, then ORIENT. -/
theorem exec_setOrientation_of_orient {b : Byte} {o : Orientation} (h : orientOf b = some o) (s : State) :
    exec (.setOrientation b) s = .next { s with
      trace := s.trace ++ [.cmd s.par.cmd.madctl, .dat (madctlVal s.par o)],
      orient := .written o } := by
  simp only [exec, execSetOrientation, checkOrientation_eq_ok.2 h, bind_ok, pure_eq_ok, perform_ok,
    wireCmd_eq_emit]
  rfl

/-- The operands 0 to 3 name the orientations, and no other does (R62). -/
theorem orientOf_eq_none {b : Byte} (h : 4 ≤ b.toNat) : orientOf b = none := by
  have hne (n : Nat) (hn : n < 4) : b ≠ BitVec.ofNat 8 n := by
    rintro rfl
    rw [BitVec.toNat_ofNat] at h
    omega
  simp [orientOf, hne 0, hne 1, hne 2, hne 3]

/-- An operand that names no orientation is V5. -/
theorem exec_setOrientation_of_no_orient {b : Byte} (h : orientOf b = none) (s : State) :
    exec (.setOrientation b) s = .next (s.refuse (.badOrient b)) := by
  simp [exec, execSetOrientation, checkOrientation, h]

/-- Settles O18: the operand names its orientation or none. -/
theorem setOrientationWritesTheController : Obligations.SetOrientationWritesTheController := fun s =>
  ⟨exec_setOrientation_of_orient rfl s, exec_setOrientation_of_orient rfl s,
    exec_setOrientation_of_orient rfl s, exec_setOrientation_of_orient rfl s,
    fun _ hb => exec_setOrientation_of_no_orient (orientOf_eq_none hb) s⟩

/-- The extent queries answer `W()` and `H()` of the active orientation, with no event (R119, R120). -/
theorem exec_extentQueries {s : State} {o : Orientation} (h : s.orient = .written o) :
    exec .getWidth s = .next (s.respond (.value (BitVec.ofNat 16 (logicalW o)))) ∧
      exec .getHeight s = .next (s.respond (.value (BitVec.ofNat 16 (logicalH o)))) := by
  simp [exec, execGetWidth, execGetHeight, h]

/-- Settles O19: both landscape orientations have one extent, and both portrait orientations the other (R118). -/
theorem extentQueriesFollowOrientation : Obligations.ExtentQueriesFollowOrientation := by
  intro s
  refine ⟨?landscape, ?portrait, ?width, ?height⟩
  case landscape => rintro (h | h) <;> exact exec_extentQueries h
  case portrait => rintro (h | h) <;> exact exec_extentQueries h
  case width => exact refusesUnwritten_orient fun h => by simp [exec, execGetWidth, h]
  case height => exact refusesUnwritten_orient fun h => by simp [exec, execGetHeight, h]

/-! ## Two runs that differ in ORIENT (R117) -/

/-- The state with that orientation in ORIENT. -/
def withOrient (s : State) (o : Orientation) : State := { s with orient := .written o }

theorem withOrient_of_orient {s : State} {o : Orientation} (h : s.orient = .written o) :
    withOrient s o = s := by
  rw [withOrient, ← h]

/-- The two orientations have one logical extent. -/
def SameExtent (o o' : Orientation) : Prop := logicalW o' = logicalW o ∧ logicalH o' = logicalH o

/-- The checks of two runs: where both pass they find related values, and where `alike` holds both pass or both
report the same violation. -/
structure ChecksAgree {α : Type} (alike : Prop) (R : α → α → Prop) (x x' : Except Violation α) : Prop where
  passed : ∀ a a', x = .ok a → x' = .ok a' → R a a'
  decided : alike → ∀ v, x = .error v ↔ x' = .error v

namespace ChecksAgree

variable {α β : Type} {alike : Prop} {R : α → α → Prop} {S : β → β → Prop}

theorem ok {a a' : α} (h : R a a') : ChecksAgree alike R (.ok a) (.ok a') where
  passed := by
    rintro _ _ ⟨⟩ ⟨⟩
    exact h
  decided := by simp

theorem bind {x x' : Except Violation α} {f f' : α → Except Violation β} (hx : ChecksAgree alike R x x')
    (hf : ∀ a a', R a a' → ChecksAgree alike S (f a) (f' a')) :
    ChecksAgree alike S (x >>= f) (x' >>= f') where
  passed := by
    intro b b' hb hb'
    obtain ⟨a, ha, hfa⟩ := bind_eq_ok.1 hb
    obtain ⟨a', ha', hfa'⟩ := bind_eq_ok.1 hb'
    exact (hf a a' (hx.passed a a' ha ha')).passed b b' hfa hfa'
  decided := by
    intro halike v
    have hv := hx.decided halike
    cases x with
    | error w =>
      obtain rfl : x' = .error w := (hv w).1 rfl
      rfl
    | ok a =>
      cases x' with
      | error w => simpa using hv w
      | ok a' => exact (hf a a' (hx.passed a a' rfl rfl)).decided halike v

/-- A check that does not depend on ORIENT is one check for both runs. -/
theorem bindSame {x : Except Violation α} {f f' : α → Except Violation β}
    (hf : ∀ a, ChecksAgree alike S (f a) (f' a)) : ChecksAgree alike S (x >>= f) (x >>= f') := by
  cases x with
  | ok a => exact hf a
  | error v => exact ⟨by simp, by simp⟩

end ChecksAgree

/-- The effects of two runs, behind their checks: the second is the first with the other orientation. -/
abbrev EffectsAgree (alike : Prop) (o' : Orientation) (r r' : Except Violation State) : Prop :=
  ChecksAgree alike (fun t u => u = withOrient t o') r r'

/-- The answers of two runs begun on the refusal marks of `s`: the second is the first with the other orientation
where `alike` holds, and where neither is refused. -/
def AnswersAgree (alike : Prop) (s : State) (o' : Orientation) (r r' : Result) : Prop :=
  ∃ t u, r = .next t ∧ r' = .next u ∧ (alike → u = withOrient t o') ∧
    (t.refusals = s.refusals → u.refusals = s.refusals → u = withOrient t o')

section

variable {s : State} {o o' : Orientation} {alike : Prop}

theorem AnswersAgree.next {t : State} :
    AnswersAgree alike s o' (.next t) (.next (withOrient t o')) :=
  ⟨t, _, rfl, rfl, fun _ => rfl, fun _ _ => rfl⟩

/-- A refusal shows in the refusal mark, so two runs that leave it alone both passed their checks (R214). -/
theorem AnswersAgree.perform {r r' : Except Violation State} (h : EffectsAgree alike o' r r') :
    AnswersAgree alike s o' ((withOrient s o).perform r) ((withOrient s o').perform r') := by
  have hdecided := h.decided
  cases r with
  | ok t =>
    cases r' with
    | ok u => exact ⟨t, u, rfl, rfl, fun _ => h.passed t u rfl rfl, fun _ _ => h.passed t u rfl rfl⟩
    | error v => exact ⟨t, _, rfl, rfl, fun ha => by simpa using hdecided ha v, by simp [withOrient]⟩
  | error v =>
    refine ⟨_, _, rfl, rfl, fun ha => ?_, by simp [withOrient]⟩
    obtain rfl : r' = .error v := (hdecided ha v).1 rfl
    rfl

/-! What each read and check finds in the two runs. -/

/-- The reads of ORIENT alone. -/
theorem readOrient_agree : ChecksAgree alike (fun a a' => a = o ∧ a' = o')
    (readReg .orient (withOrient s o).orient) (readReg .orient (withOrient s o').orient) :=
  .ok ⟨rfl, rfl⟩

theorem readPixelRegs_agree : ChecksAgree alike (fun a a' => a.2 = o ∧ a' = (a.1, o'))
    (readPixelRegs (withOrient s o)) (readPixelRegs (withOrient s o')) :=
  .bindSame fun _ => .ok ⟨rfl, rfl⟩

theorem readTextRegs_agree : ChecksAgree alike (fun r r' => r.orient = o ∧ r' = { r with orient := o' })
    (readTextRegs (withOrient s o)) (readTextRegs (withOrient s o')) :=
  .bind readPixelRegs_agree fun _ _ ⟨ho, ha'⟩ => by
    subst ha'
    exact .bindSame fun _ => .bindSame fun _ => .bindSame fun _ => .bindSame fun _ => .ok ⟨ho, rfl⟩

theorem checkRange_of_sameExtent (h : SameExtent o o') (w : Window) : checkRange o' w = checkRange o w := by
  obtain ⟨hw, hh⟩ := h
  simp [checkRange, require, hw, hh]

theorem checkRange_agree {w : Window} :
    ChecksAgree (SameExtent o o') (fun _ _ => True) (checkRange o w) (checkRange o' w) where
  passed := fun _ _ _ _ => trivial
  decided := fun h v => by rw [checkRange_of_sameExtent h]

theorem checkWindow_agree {w : Window} :
    ChecksAgree (SameExtent o o') (fun _ _ => True) (checkWindow o w) (checkWindow o' w) :=
  .bindSame fun _ => checkRange_agree

theorem checkPixels_agree {w : Window} : ChecksAgree (SameExtent o o') Eq
    (checkPixels (withOrient s o) w) (checkPixels (withOrient s o') w) :=
  .bind readPixelRegs_agree fun _ _ ⟨ho, ha'⟩ => by
    subst ho ha'
    exact .bind checkWindow_agree fun _ _ _ => .bindSame fun _ => .ok rfl

/-- The two runs of a window operation: only the check of the window consults the extent. -/
theorem windowAnswer_agree {w : Window} {t : State} :
    AnswersAgree (SameExtent o o') s o' (windowAnswer (withOrient s o) w t)
      (windowAnswer (withOrient s o') w (withOrient t o')) :=
  .perform <| .bind readOrient_agree fun _ _ ⟨ho, ho'⟩ => by
    subst ho ho'
    exact .bind checkWindow_agree fun _ _ _ => .ok rfl

/-- A pixel operation's effect may use the depth its checks answer, which is the same in both runs. -/
theorem checkPixels_bind_agree {w : Window} {f f' : ColorMode → Except Violation State}
    (h : ∀ m, EffectsAgree (SameExtent o o') o' (f m) (f' m)) :
    EffectsAgree (SameExtent o o') o' (checkPixels (withOrient s o) w >>= f)
      (checkPixels (withOrient s o') w >>= f') :=
  .bind checkPixels_agree fun m _ hm => hm ▸ h m

/-! The string operations consult the width and the height for the cells they draw (R157, R160 to R162). -/

variable {r : TextRegs}

theorem drawnCells_of_sameExtent (h : SameExtent r.orient o') (pad : Bool) (cs : List Byte) (x y : Nat) :
    drawnCells { r with orient := o' } pad cs x y = drawnCells r pad cs x y := by
  obtain ⟨hw, hh⟩ := h
  simp only [drawnCells, stringCells, hw, hh]

theorem checkCells_of_sameExtent (h : SameExtent r.orient o') (y : Nat) (cells : List Cell) (k : Nat) :
    checkCells { r with orient := o' } y cells k = checkCells r y cells k := by
  induction cells generalizing k with
  | nil => rfl
  | cons cell cells ih =>
    simp only [checkCells, checkRange_of_sameExtent h, ih]
    rfl

/-- Drawing uses the depth, the font and the colours, and no orientation. -/
theorem drawCells_withOrient (y : Nat) (cells : List Cell) (s : State) :
    State.drawCells { r with orient := o' } y cells (withOrient s o') =
      withOrient (State.drawCells r y cells s) o' := by
  simp only [drawCells_eq_emit]
  rfl

theorem putStringAt_agree (h : SameExtent r.orient o') {pad : Bool} {x y len : Nat} :
    EffectsAgree alike o' (putStringAt r pad x y len (withOrient s o))
      (putStringAt { r with orient := o' } pad x y len (withOrient s o')) := by
  simp only [putStringAt, drawnCells_of_sameExtent h, checkCells_of_sameExtent h]
  exact .bindSame fun _ => .bindSame fun _ => .bindSame fun _ =>
    .ok (drawCells_withOrient y _ ((withOrient s o).dropBytes len))

end

/-- The operations whose answer depends on the extent beyond their checks: the extent queries and the string
operations (R119, R120, R157). -/
def consultsExtent : Instr → Bool
  | .getWidth | .getHeight => true
  | i => isStringOp i

theorem consultsExtent_eq_false {i : Instr} (hstring : isStringOp i = false) (hwidth : i ≠ .getWidth)
    (hheight : i ≠ .getHeight) : consultsExtent i = false := by
  unfold consultsExtent
  split
  · exact absurd rfl hwidth
  · exact absurd rfl hheight
  · exact hstring

/-- SET_ORIENTATION apart, an operation uses ORIENT through the extent alone: each case names its checks in the order
of its `exec` function. -/
theorem exec_agreeButOrient {i : Instr} {s : State} {o o' : Orientation}
    (hset : ∀ b, i ≠ .setOrientation b) (hextent : consultsExtent i = true → SameExtent o o') :
    AnswersAgree (SameExtent o o') s o' (exec i (withOrient s o)) (exec i (withOrient s o')) := by
  cases i with
  | setOrientation => exact absurd rfl (hset _)
  | getWidth =>
    rw [(exec_extentQueries (o := o) rfl).1, (exec_extentQueries (o := o') rfl).1, (hextent rfl).1]
    exact .next
  | getHeight =>
    rw [(exec_extentQueries (o := o) rfl).2, (exec_extentQueries (o := o') rfl).2, (hextent rfl).2]
    exact .next
  | setWindow | setWriteWindow | setReadWindow => exact windowAnswer_agree
  | fill => exact .perform (checkPixels_bind_agree fun _ => .ok rfl)
  | readMemory =>
    exact .perform (checkPixels_bind_agree fun _ => .ok (by simp only [readToOut_eq]; rfl))
  | fillFromArray =>
    exact .perform (checkPixels_bind_agree fun _ => .bindSame fun _ => .bindSame fun _ => .ok rfl)
  | fillFromBuffer => exact .perform (checkPixels_bind_agree fun _ => .bindSame fun _ => .ok rfl)
  | setPixel | setPixel16 =>
    refine .perform (.bind readPixelRegs_agree ?_)
    rintro _ _ ⟨rfl, rfl⟩
    exact .bind checkRange_agree fun _ _ _ => .bindSame fun _ => .ok rfl
  | putChar =>
    refine .perform (.bind readTextRegs_agree ?_)
    rintro r _ ⟨rfl, rfl⟩
    exact .bind checkRange_agree fun _ _ _ => .bindSame fun _ => .bindSame fun _ => .ok rfl
  | putString | putStringClearToEol =>
    refine .perform (.bind readTextRegs_agree ?_)
    rintro r _ ⟨rfl, rfl⟩
    exact putStringAt_agree (hextent rfl)
  | putStringCentered =>
    refine .perform (.bind readTextRegs_agree ?_)
    rintro r _ ⟨rfl, rfl⟩
    obtain ⟨hw, -⟩ := hextent rfl
    simp only [hw]
    exact putStringAt_agree (hextent rfl)
  | setColorMode => exact .perform (.bindSame fun m => .ok (by cases m <;> rfl))
  | setFont | partialMode | scrollArea | scrollStart => exact .perform (.bindSame fun _ => .ok rfl)
  | setTextColors => exact .next
  | init | sleepIn | sleepOut | displayOn | displayOff | idleOn | idleOff | inversionOn | inversionOff
  | normalMode | gammaSet | teOn | teOff | wirePix12 | wirePix16 | wirePix18 | wireCmdSlpin
  | wireCmdSlpout | wireCmdDispon | wireCmdDispoff | wireCmdNoron | wireCmdIdmon | wireCmdIdmoff
  | wireCmdInvon | wireCmdInvoff | wireCmdCaset | wireCmdPaset | wireCmdRamwr | wireCmdRamrd
  | wireCmdMadctl | wireCmdColmod | wireCmdRgbset | wireCmdPtlon | wireCmdPtlar | wireCmdVscrdef
  | wireCmdVscrsadd | wireCmdGamset | wireCmdTeon | wireCmdTeoff => exact .next

/-- Settles O55: no frame of SET_WINDOW names the orientation, and the two runs of an operation agree as
`exec_agreeButOrient` says. -/
theorem orientationOnlyChangesTheExtent : Obligations.OrientationOnlyChangesTheExtent := by
  refine ⟨fun s o x0 y0 x1 y1 ho hlegal => ?frames, fun i s t o o' hset ho hexec => ⟨?same, ?other⟩⟩
  case frames => exact ((windowOperationsEmitTheirFrames s x0 y0 x1 y1).1 o ho hlegal).1
  all_goals rw [← withOrient_of_orient ho] at hexec
  case same =>
    intro hw hh
    have hextent : SameExtent o o' := ⟨hw, hh⟩
    obtain ⟨t', u, ht, hu, hequal, -⟩ := exec_agreeButOrient (s := s) hset fun _ => hextent
    obtain rfl : t' = t := Host.Outcome.next.inj (ht.symm.trans hexec)
    exact hu.trans (congrArg _ (hequal hextent))
  case other =>
    intro hstring hwidth hheight u hexec' hrun hrun'
    have hnone := consultsExtent_eq_false hstring hwidth hheight
    obtain ⟨t', u', ht, hu, -, hequal⟩ :=
      exec_agreeButOrient (s := s) (o' := o') hset (by simp [hnone])
    obtain rfl : t' = t := Host.Outcome.next.inj (ht.symm.trans hexec)
    obtain rfl : u' = u := Host.Outcome.next.inj (hu.symm.trans hexec')
    exact hequal hrun hrun'


/-! ## Byte counts of transfers (R136)

A byte count is stated doubled, as two pixels have `BPPx2()` bytes (R97). -/

theorem two_mul_length_fillBytes {m : ColorMode} {j : Nat} (heven : m = .c12 → j % 2 = 0) (c : Colour) :
    2 * (fillBytes m j c).length = j * bppx2 m := by
  cases m with
  | c12 =>
    have hj : j % 2 = 0 := heven rfl
    simp [fillBytes, enc12, bppx2]
    omega
  | c16 | c18 =>
    simp [fillBytes, enc16, enc18, bppx2]
    omega

theorem two_mul_length_encPixels {m : ColorMode} {ps : List Colour} {bs : List Byte}
    (h : encPixels m ps = .ok bs) : 2 * bs.length = ps.length * bppx2 m := by
  obtain ⟨⟨bs16, h16, hlen16⟩, ⟨bs18, h18, hlen18⟩, heven, hodd⟩ := packedLengthFollowsTheDepth ps
  cases m with
  | c12 =>
    obtain hpar | hpar := Nat.mod_two_eq_zero_or_one ps.length
    · obtain ⟨bs12, h12, hlen12⟩ := heven hpar
      obtain rfl : bs12 = bs := Except.ok.inj (h12.symm.trans h)
      exact hlen12.trans (Nat.mul_comm ..)
    · simp [hodd hpar] at h
  | c16 =>
    obtain rfl : bs16 = bs := Except.ok.inj (h16.symm.trans h)
    simp only [bppx2]
    omega
  | c18 =>
    obtain rfl : bs18 = bs := Except.ok.inj (h18.symm.trans h)
    simp only [bppx2]
    omega

theorem two_mul_byteCount {m : ColorMode} {w : Window} (heven : m = .c12 → pixelCount w % 2 = 0) :
    2 * byteCount m w = pixelCount w * bppx2 m := by
  cases m with
  | c12 =>
    have hpar : pixelCount w % 2 = 0 := heven rfl
    simp only [byteCount, bppx2]
    omega
  | c16 | c18 =>
    simp only [byteCount, bppx2]
    omega

theorem length_encPair (m : ColorMode) (p q : Colour) : (encPair m p q).length = bppx2 m := by
  cases m <;> rfl

/-- A glyph is one codec call for every two pixels of every row (R155). -/
theorem length_glyphBytes (r : TextRegs) (c : Byte) :
    (glyphBytes r c).length = bppx2 r.mode * (r.font.gw.toNat / 2) * r.font.gh.toNat := by
  have hrow (k : Nat) : (glyphRowBytes r c k).length = bppx2 r.mode * (r.font.gw.toNat / 2) := by
    rw [glyphRowBytes, length_flatMap_const (fun _ => length_encPair ..), List.length_range]
  rw [glyphBytes, length_flatMap_const hrow, List.length_range]

/-! ## Pixel writers send whole transfers (R114) -/

/-- A transfer that is legal for the registers of `s`. -/
def LegalTransfer (s : State) (tr : Transfer) : Prop :=
  ∃ m o, s.cmode = .written m ∧ s.orient = .written o ∧ transferLegal m o tr

/-- The state `t` is reached from `s` by write transfers that are legal for the registers of `s`, and no refusal. -/
structure SendsTransfers (s t : State) : Prop where
  transfers : ∃ trs : List Transfer,
    t.trace = s.trace ++ trs.flatMap (fun tr =>
      writeTransfer s.par tr.x0 tr.y0 tr.x1 tr.y1 tr.bytes) ∧
    ∀ tr ∈ trs, LegalTransfer s tr
  refusals : t.refusals = s.refusals
  par : t.par = s.par

namespace SendsTransfers

variable {s t : State}

theorem refl (s : State) : SendsTransfers s s := ⟨⟨[], by simp⟩, rfl, rfl⟩

theorem dropColours (h : SendsTransfers s t) {n : Nat} : SendsTransfers s (t.dropColours n) := { h with }

theorem dropBytes (h : SendsTransfers s t) {n : Nat} : SendsTransfers s (t.dropBytes n) := { h with }

theorem transfer (h : SendsTransfers s t) {tr : Transfer} (htr : LegalTransfer s tr) :
    SendsTransfers s (t.emit (writeTransfer t.par tr.x0 tr.y0 tr.x1 tr.y1 tr.bytes)) := by
  obtain ⟨⟨trs, htrace, hlegal⟩, hrefusals, hpar⟩ := h
  refine ⟨⟨trs ++ [tr], by simp [htrace, hpar], ?_⟩, hrefusals, hpar⟩
  intro tr' hmem
  obtain hmem | hmem := List.mem_append.1 hmem
  · exact hlegal tr' hmem
  · obtain rfl := List.mem_singleton.1 hmem
    exact htr

/-- A write window of four operands and its data. -/
theorem write (h : SendsTransfers s t) {x0 y0 x1 y1 : Half} {bs : List Byte}
    (htr : LegalTransfer s ⟨x0, y0, x1, y1, bs⟩) :
    SendsTransfers s ((t.setWriteWindow (windowOf x0 y0 x1 y1)).send bs) := by
  rw [setWriteWindow_send]
  exact h.transfer (tr := ⟨x0, y0, x1, y1, bs⟩) htr

end SendsTransfers

/-- The transfer of one glyph at `x`, `y` (R155). -/
def cellTransfer (r : TextRegs) (c : Byte) (x y : Nat) : Transfer where
  x0 := BitVec.ofNat 16 x
  y0 := BitVec.ofNat 16 y
  x1 := BitVec.ofNat 16 (x + r.font.gw.toNat - 1)
  y1 := BitVec.ofNat 16 (y + r.font.gh.toNat - 1)
  bytes := glyphBytes r c

section

variable {s t : State} {x0 y0 x1 y1 : Half} {m : ColorMode} {bs : List Byte} {r : TextRegs}

/-- The checks of an operation on a window of pixels leave only the byte count to show. -/
theorem legalTransfer_of_checkPixels (h : checkPixels s (windowOf x0 y0 x1 y1) = .ok m)
    (hlength : 2 * bs.length = windowPixels x0 y0 x1 y1 * bppx2 m) :
    LegalTransfer s ⟨x0, y0, x1, y1, bs⟩ := by
  obtain ⟨hm, o, ho, hwindow, -⟩ := checkPixels_eq_ok.1 h
  exact ⟨m, o, hm, ho, hwindow, hlength⟩

/-- The pixel count is even wherever the depth needs it to be (V3). -/
theorem even_of_checkPixels {w : Window} (h : checkPixels s w = .ok m) :
    m = .c12 → pixelCount w % 2 = 0 := by
  obtain ⟨-, -, -, -, heven⟩ := checkPixels_eq_ok.1 h
  exact heven

/-- A glyph cell inside the extent, under a header of legal geometry, is a legal transfer: its corners are below 208
and fit their 16 bits, and `gw` is even, so the rows are whole pairs of pixels (R153, R155). -/
theorem legalTransfer_cellTransfer (hregs : readTextRegs s = .ok r) {c : Byte} {x y : Nat}
    (hrange : checkRange r.orient (glyphWindow r x y) = .ok ()) (hgeometry : checkGeometry r.font = .ok ()) :
    LegalTransfer s (cellTransfer r c x y) := by
  obtain ⟨hm, ho, -⟩ := readTextRegs_eq_ok.1 hregs
  obtain ⟨hx, hy⟩ := checkRange_glyphWindow.1 hrange
  obtain ⟨heven, hgw, -, hgh, -⟩ := checkGeometry_eq_ok.1 hgeometry
  have hpanel : logicalW r.orient ≤ 208 ∧ logicalH r.orient ≤ 208 := by cases r.orient <;> decide
  have hcoord (n : Nat) (hn : n < 208) : (BitVec.ofNat 16 n).toNat = n := by
    rw [BitVec.toNat_ofNat]
    omega
  have hwidth : x + r.font.gw.toNat - 1 - x + 1 = r.font.gw.toNat := by omega
  have hheight : y + r.font.gh.toNat - 1 - y + 1 = r.font.gh.toNat := by omega
  have hpairs : 2 * (r.font.gw.toNat / 2) = r.font.gw.toNat := by omega
  refine ⟨r.mode, r.orient, hm, ho, ?window, ?length⟩
  all_goals
    simp only [cellTransfer, WindowLegal, windowPixels]
    rw [hcoord x (by omega), hcoord y (by omega), hcoord (x + r.font.gw.toNat - 1) (by omega),
      hcoord (y + r.font.gh.toNat - 1) (by omega)]
  case window => omega
  case length =>
    rw [length_glyphBytes, hwidth, hheight]
    calc 2 * (bppx2 r.mode * (r.font.gw.toNat / 2) * r.font.gh.toNat)
        = 2 * (r.font.gw.toNat / 2) * r.font.gh.toNat * bppx2 r.mode := by ring
      _ = r.font.gw.toNat * r.font.gh.toNat * bppx2 r.mode := by rw [hpairs]

theorem SendsTransfers.drawGlyph (h : SendsTransfers s t) {c : Byte} {x y : Nat}
    (htr : LegalTransfer s (cellTransfer r c x y)) : SendsTransfers s (t.drawGlyph r c x y) := by
  rw [drawGlyph_eq_emit]
  exact h.transfer (tr := cellTransfer r c x y) htr

/-- The glyphs of a run are one transfer each (R157). -/
theorem SendsTransfers.drawCells {y : Nat} {cells : List Cell} (h : SendsTransfers s t)
    (hcells : ∀ cell ∈ cells, LegalTransfer s (cellTransfer r cell.1 cell.2 y)) :
    SendsTransfers s (State.drawCells r y cells t) := by
  induction cells generalizing t with
  | nil => exact h
  | cons cell cells ih =>
    obtain ⟨hcell, hcells⟩ := List.forall_mem_cons.1 hcells
    exact ih (h.drawGlyph hcell) hcells

/-- Where the checks of an operation pass, its effect is a sequence of legal transfers. -/
def EffectSendsTransfers (s : State) (r : Except Violation State) : Prop :=
  ∀ t, r = .ok t → SendsTransfers s t

/-- The effect behind a check may use what the check found. -/
theorem EffectSendsTransfers.bind {α : Type} {x : Except Violation α} {f : α → Except Violation State}
    (h : ∀ a, x = .ok a → EffectSendsTransfers s (f a)) : EffectSendsTransfers s (x >>= f) := by
  intro t ht
  obtain ⟨a, hx, hfa⟩ := bind_eq_ok.1 ht
  exact h a hx t hfa

theorem EffectSendsTransfers.ok (h : SendsTransfers s t) : EffectSendsTransfers s (.ok t) := by
  rintro _ ⟨⟩
  exact h

/-- An operation sends legal transfers, or is refused and sends none (R214). -/
def AnswerSendsTransfers (s : State) (r : Result) : Prop :=
  ∀ t, r = .next t → SendsTransfers s t ∨ ∃ v, t = s.refuse v

theorem AnswerSendsTransfers.perform {r : Except Violation State} (h : EffectSendsTransfers s r) :
    AnswerSendsTransfers s (s.perform r) := by
  intro t ht
  obtain hok | ⟨v, -, hv⟩ := perform_eq_next.1 ht
  · exact .inl (h t hok)
  · exact .inr ⟨v, hv⟩

/-- The part the three string operations share: every cell passed its checks before the first event (R157). -/
theorem putStringAt_sendsTransfers (hregs : readTextRegs s = .ok r) {pad : Bool} {x y len : Nat} :
    EffectSendsTransfers s (putStringAt r pad x y len s) :=
  .bind fun _ hcells => .bind fun _ hgeometry => .bind fun _ _ =>
    .ok ((SendsTransfers.refl s).dropBytes.drawCells fun cell hmem =>
      legalTransfer_cellTransfer hregs (checkCells_eq_ok.1 hcells cell hmem).1 hgeometry)

theorem exec_fill_sendsTransfers (c : Colour) : AnswerSendsTransfers s (exec (.fill x0 y0 x1 y1 c) s) :=
  .perform <| .bind fun _ hm => .ok <| (SendsTransfers.refl s).write <|
    legalTransfer_of_checkPixels hm (two_mul_length_fillBytes (even_of_checkPixels hm) c)

theorem exec_fillFromArray_sendsTransfers : AnswerSendsTransfers s (exec (.fillFromArray x0 y0 x1 y1) s) :=
  .perform <| .bind fun _ hm => .bind fun _ hstream => .bind fun _ hbs =>
    .ok <| (SendsTransfers.refl s).dropColours.write <| legalTransfer_of_checkPixels hm <| by
      rw [two_mul_length_encPixels hbs, List.length_take_of_le (checkStream_eq_ok.1 hstream)]
      rfl

theorem exec_fillFromBuffer_sendsTransfers : AnswerSendsTransfers s (exec (.fillFromBuffer x0 y0 x1 y1) s) :=
  .perform <| .bind fun _ hm => .bind fun _ hstream =>
    .ok <| (SendsTransfers.refl s).dropBytes.write <| legalTransfer_of_checkPixels hm <| by
      rw [List.length_take_of_le (checkStream_eq_ok.1 hstream), two_mul_byteCount (even_of_checkPixels hm)]
      rfl

theorem readPixelRegs_eq_ok {a : ColorMode × Orientation} :
    readPixelRegs s = .ok a ↔ s.cmode = .written a.1 ∧ s.orient = .written a.2 := by
  simp only [readPixelRegs, bind_eq_ok, readReg_eq_ok, pure_eq_ok, Except.ok.injEq]
  constructor
  · rintro ⟨m, hm, o, ho, rfl⟩
    exact ⟨hm, ho⟩
  · rintro ⟨hm, ho⟩
    exact ⟨a.1, hm, a.2, ho, rfl⟩

/-- SET_PIXEL16 runs at 16 bits only, where its operand is the two bytes of one pixel (R134). -/
theorem exec_setPixel16_sendsTransfers {x y v : Half} :
    AnswerSendsTransfers s (exec (.setPixel16 x y v) s) := by
  refine .perform (.bind fun a hregs => .bind fun _ hrange => .bind fun _ hmode => .ok ?_)
  obtain ⟨hm, ho⟩ := readPixelRegs_eq_ok.1 hregs
  have h16 : a.1 = .c16 := require_eq_ok.1 hmode
  have hwindow : WindowLegal a.2 x y x y := ⟨⟨le_rfl, le_rfl⟩, checkRange_eq_ok.1 hrange⟩
  have hlength : 2 * (bytes16 v).length = windowPixels x y x y * bppx2 a.1 := by
    simp [h16, bytes16, windowPixels, bppx2]
  exact (SendsTransfers.refl s).write ⟨a.1, a.2, hm, ho, hwindow, hlength⟩

theorem exec_putChar_sendsTransfers {c : Byte} {x y : Half} :
    AnswerSendsTransfers s (exec (.putChar c x y) s) :=
  .perform <| .bind fun _ hregs => .bind fun _ hrange => .bind fun _ _ => .bind fun _ hgeometry =>
    .ok <| (SendsTransfers.refl s).drawGlyph <| legalTransfer_cellTransfer hregs hrange hgeometry

end

/-- A pixel writer decides every check before its first event, so it sends whole transfers or none. -/
theorem exec_sendsTransfers {i : Instr} (hi : isPixelWriter i = true) (s : State) :
    AnswerSendsTransfers s (exec i s) := by
  cases i with
  | fill => exact exec_fill_sendsTransfers _
  | fillFromArray => exact exec_fillFromArray_sendsTransfers
  | fillFromBuffer => exact exec_fillFromBuffer_sendsTransfers
  | setPixel x y color =>
    rw [setPixelIsOnePixelFill s x y color]
    exact exec_fill_sendsTransfers color
  | setPixel16 => exact exec_setPixel16_sendsTransfers
  | putChar => exact exec_putChar_sendsTransfers
  | putString | putStringClearToEol | putStringCentered =>
    exact .perform (.bind fun _ hregs => putStringAt_sendsTransfers hregs)
  | _ => exact absurd hi Bool.false_ne_true

/-- Settles O57: the transfers of an operation that ran, or none of one that was refused. -/
theorem pixelWritersEmitOnlyWholeTransfers : Obligations.PixelWritersEmitOnlyWholeTransfers := by
  intro i s t hi hexec
  obtain ⟨⟨trs, htrace, hlegal⟩, hrefusals, -⟩ | ⟨v, rfl⟩ := exec_sendsTransfers hi s t hexec
  · exact ⟨trs, htrace, hlegal, .inl hrefusals⟩
  · exact ⟨[], by simp⟩

end Sys2Proof.Proofs
end

section
/-! PROOFS. 42_drawing.md: the drawing operations. Each decides its checks first: `checkPixels` finds the depth where
the window is ready (`checkPixels_of_ready`) and is the refusal where it is not (`refusesBadPixelWindow`). Behind the
checks stands one transfer, which the `exec_…_of_ready` lemmas name. -/

namespace Sys2Proof.Proofs

open Sys2Proof.Machine Sys2Proof.Laws

/-! ## The checks of an operation on pixels (R217: V12, V1, V2, V3) -/

section

variable {s : State} {m : ColorMode} {o : Orientation} {x0 y0 x1 y1 : Half} {i : Instr}

/-- The read of CMODE and ORIENT names the first of the two that is unwritten (R217). -/
theorem readPixelRegs_of_unwritten (h : ∃ r ∈ [RegName.cmode, .orient], regUnwritten s r) :
    ∃ r ∈ [RegName.cmode, .orient], regUnwritten s r ∧ readPixelRegs s = .error (.unwrittenState r) := by
  cases hm : s.cmode with
  | unwritten => exact ⟨.cmode, by simp, hm, by simp [readPixelRegs, hm]⟩
  | written m =>
    have ho : s.orient = .unwritten := by simpa [regUnwritten, hm] using h
    exact ⟨.orient, by simp, ho, by simp [readPixelRegs, hm, ho]⟩

/-- An operation that begins with the read of CMODE and ORIENT is refused as V12 where one is unwritten. -/
theorem refusesUnwritten_pixelRegs {f : ColorMode × Orientation → Except Violation State}
    (hi : exec i s = s.perform (readPixelRegs s >>= f)) : RefusesUnwritten i s [.cmode, .orient] := by
  intro hunwritten
  obtain ⟨r, hr, hreg, hread⟩ := readPixelRegs_of_unwritten hunwritten
  exact ⟨r, hr, hreg, by rw [hi, hread, bind_error, perform_error]⟩

theorem checkPixels_of_ready (h : PixelReady s m o x0 y0 x1 y1) :
    checkPixels s (windowOf x0 y0 x1 y1) = .ok m := by
  obtain ⟨hm, ho, hlegal, heven⟩ := h
  exact checkPixels_eq_ok.2 ⟨hm, o, ho, hlegal, heven⟩

theorem checkPixels_of_written (hm : s.cmode = .written m) (ho : s.orient = .written o) (w : Window) :
    checkPixels s w = (do checkWindow o w; checkEven m (pixelCount w); return m) := by
  simp [checkPixels, readPixelRegs, hm, ho]

/-- An odd pixel count at 12 bits is V3, behind the window's checks (R95, R130). -/
theorem checkPixels_of_odd (hm : s.cmode = .written .c12) (ho : s.orient = .written o)
    (hlegal : WindowLegal o x0 y0 x1 y1) (hodd : windowPixels x0 y0 x1 y1 % 2 = 1) :
    checkPixels s (windowOf x0 y0 x1 y1) = .error (.oddCount12 (windowPixels x0 y0 x1 y1)) := by
  have hwindow : checkWindow o (windowOf x0 y0 x1 y1) = .ok () := checkWindow_eq_ok.2 hlegal
  have heven : checkEven .c12 (pixelCount (windowOf x0 y0 x1 y1)) =
      .error (.oddCount12 (windowPixels x0 y0 x1 y1)) :=
    require_eq_error.2 ⟨fun h => absurd (h rfl) (Nat.mod_two_ne_zero.2 hodd), rfl⟩
  rw [checkPixels_of_written hm ho, hwindow, bind_ok, heven, bind_error]

/-- How an operation is refused that begins with the checks of a window of pixels, whatever follows them. -/
theorem refusesBadPixelWindow {f : ColorMode → Except Violation State}
    (hi : exec i s = s.perform (checkPixels s (windowOf x0 y0 x1 y1) >>= f)) :
    RefusesBadPixelWindow i s x0 y0 x1 y1 := by
  have refused {v : Violation} (h : checkPixels s (windowOf x0 y0 x1 y1) = .error v) :
      exec i s = .next (s.refuse v) := by
    rw [hi, h, bind_error, perform_error]
  refine ⟨?unwritten, fun m o hm ho => ⟨fun hinverted => ?inverted, fun horder hillegal => ?outside, ?odd⟩⟩
  case unwritten =>
    rw [checkPixels, bind_assoc] at hi
    exact refusesUnwritten_pixelRegs hi
  case inverted =>
    refine refused ?_
    rw [checkPixels_of_written hm ho, checkWindow_of_inverted hinverted, bind_error]
    rfl
  case outside =>
    refine refused ?_
    rw [checkPixels_of_written hm ho, checkWindow_of_outside horder fun h => hillegal ⟨horder, h⟩, bind_error]
    rfl
  case odd =>
    rintro hlegal rfl hodd
    exact refused (checkPixels_of_odd hm ho hlegal hodd)

end

/-! ## FILL (R130) -/

section

variable {s : State} {m : ColorMode} {o : Orientation} {x0 y0 x1 y1 : Half}

theorem exec_fill_of_ready (h : PixelReady s m o x0 y0 x1 y1) (c : Colour) :
    exec (.fill x0 y0 x1 y1 c) s = .next
      (s.emit (writeTransfer s.par x0 y0 x1 y1 (fillBytes m (windowPixels x0 y0 x1 y1) c))) := by
  simp only [exec, execFill, checkPixels_of_ready h, bind_ok, pure_eq_ok, perform_ok, setWriteWindow_send]
  rfl

end

/-- Settles O20: the data behind the checks is `fillBytes`, depth by depth. -/
theorem fillRepeatsThePackedColour : Obligations.FillRepeatsThePackedColour := by
  intro s m o x0 y0 x1 y1 c
  refine ⟨fun hready => (exec_fill_of_ready hready c).trans ?_, refusesBadPixelWindow rfl⟩
  cases m <;> rfl

/-! ## SET_PIXEL and SET_PIXEL16 (R133, R134) -/

theorem windowPixels_self (x y : Half) : windowPixels x y x y = 1 := pixelCount_windowOf_self x y

/-- Settles O24: SET_PIXEL is the FILL of one pixel (O25), whose unit is sent once, and one is an odd count. -/
theorem setPixelSendsOnePackedPixel : Obligations.SetPixelSendsOnePackedPixel := by
  intro s o x y c
  have hfill : exec (.setPixel x y c) s = exec (.fill x y x y c) s := setPixelIsOnePixelFill s x y c
  have hrefuses : RefusesBadPixelWindow (.setPixel x y c) s x y x y := refusesBadPixelWindow hfill
  have hsends {m : ColorMode} (hready : PixelReady s m o x y x y) :
      exec (.setPixel x y c) s = .next (s.emit (writeTransfer s.par x y x y (fillBytes m 1 c))) := by
    rw [hfill, exec_fill_of_ready hready, windowPixels_self]
  refine ⟨hsends, hsends, fun hm ho hlegal => ?odd, hrefuses⟩
  obtain ⟨-, hclasses⟩ := hrefuses
  obtain ⟨-, -, hodd⟩ := hclasses .c12 o hm ho
  simpa only [windowPixels_self] using hodd hlegal rfl (by rw [windowPixels_self])

section

variable {s : State} {m : ColorMode} {o : Orientation} {x y : Half}

/-- SET_PIXEL16 behind its reads: V2, then V10, then the operand's two bytes. -/
theorem exec_setPixel16_of_written (hm : s.cmode = .written m) (ho : s.orient = .written o) (v : Half) :
    exec (.setPixel16 x y v) s = s.perform (do
      checkRange o (windowOf x y x y)
      checkPixel16 m
      return s.emit (writeTransfer s.par x y x y (bytes16 v))) := by
  simp [exec, execSetPixel16, readPixelRegs, hm, ho, setWriteWindow_send, -send_eq_emit]

end

/-- Settles O26: the checks behind the reads of the registers are taken in their order. -/
theorem setPixel16SendsItsOperandHighByteFirst : Obligations.SetPixel16SendsItsOperandHighByteFirst := by
  intro s o x y v
  have hrange (h : WindowLegal o x y x y) : checkRange o (windowOf x y x y) = .ok () := checkRange_eq_ok.2 h.2
  refine ⟨?runs, ?mode, ?outside, refusesUnwritten_pixelRegs rfl⟩
  case runs =>
    rintro ⟨hm, ho, hlegal, -⟩
    rw [exec_setPixel16_of_written hm ho, hrange hlegal]
    rfl
  case mode =>
    intro m hne hm ho hlegal
    have hmode : checkPixel16 m = .error (.pixel16Mode m) := require_eq_error.2 ⟨hne, rfl⟩
    rw [exec_setPixel16_of_written hm ho, hrange hlegal, bind_ok, hmode]
    rfl
  case outside =>
    intro m hm ho hillegal
    have houtside : checkRange o (windowOf x y x y) =
        .error (.windowRange (windowOf x y x y) (logicalW o) (logicalH o)) :=
      require_eq_error.2 ⟨fun h => hillegal ⟨⟨le_rfl, le_rfl⟩, h⟩, rfl⟩
    rw [exec_setPixel16_of_written hm ho, houtside]
    rfl

/-! ## FILL_FROM_ARRAY (R131) -/

/-- A sequence packs at every depth where its count is even at 12 bits (R95). -/
theorem exists_encPixels {m : ColorMode} {ps : List Colour} (heven : m = .c12 → ps.length % 2 = 0) :
    ∃ bs, encPixels m ps = .ok bs := by
  cases m with
  | c12 => exact ⟨_, encPixels_c12_of_even (heven rfl)⟩
  | c16 | c18 => exact ⟨_, rfl⟩

theorem checkStream_of_short {required supplied : Nat} (h : supplied < required) :
    checkStream required supplied = .error (.streamLength required supplied) :=
  require_eq_error.2 ⟨Nat.not_le.2 h, rfl⟩

section

variable {s : State} {m : ColorMode} {o : Orientation} {x0 y0 x1 y1 : Half}

/-- On a ready window the count of the colours supplied is left to check (V9). -/
theorem exec_fillFromArray_of_ready (h : PixelReady s m o x0 y0 x1 y1) :
    exec (.fillFromArray x0 y0 x1 y1) s = s.perform (do
      checkStream (windowPixels x0 y0 x1 y1) (streamColours s.inStream).length
      let bs ← encPixels m ((streamColours s.inStream).take (windowPixels x0 y0 x1 y1))
      return (s.dropColours (windowPixels x0 y0 x1 y1)).emit (writeTransfer s.par x0 y0 x1 y1 bs)) := by
  simp only [exec, execFillFromArray, checkPixels_of_ready h, bind_ok, setWriteWindow_send]
  rfl

theorem exec_fillFromArray_of_enough (h : PixelReady s m o x0 y0 x1 y1) {cs : List Colour}
    (hin : s.inStream = .colours cs) (hlength : windowPixels x0 y0 x1 y1 ≤ cs.length) {bs : List Byte}
    (hbs : encPixels m (cs.take (windowPixels x0 y0 x1 y1)) = .ok bs) :
    exec (.fillFromArray x0 y0 x1 y1) s = .next
      ((s.dropColours (windowPixels x0 y0 x1 y1)).emit (writeTransfer s.par x0 y0 x1 y1 bs)) := by
  have hcs : streamColours s.inStream = cs := by rw [hin, streamColours]
  have hstream : checkStream (windowPixels x0 y0 x1 y1) cs.length = .ok () := checkStream_eq_ok.2 hlength
  rw [exec_fillFromArray_of_ready h, hcs, hstream, bind_ok, hbs]
  rfl

end

/-- Settles O22: the packing succeeds, as the count taken is the window's. -/
theorem fillFromArrayPacksTheSuppliedColours : Obligations.FillFromArrayPacksTheSuppliedColours := by
  intro s m o x0 y0 x1 y1
  refine ⟨?enough, ?short, refusesBadPixelWindow rfl⟩
  case enough =>
    intro cs hready hin hlength
    have ⟨_, _, _, heven⟩ := hready
    obtain ⟨bs, hbs⟩ : ∃ bs, encPixels m (cs.take (windowPixels x0 y0 x1 y1)) = .ok bs :=
      exists_encPixels (by rwa [List.length_take_of_le hlength])
    refine ⟨bs, hbs, (exec_fillFromArray_of_enough hready hin hlength hbs).trans ?_⟩
    simp [State.dropColours, State.emit, hin, streamColours]
  case short =>
    intro hready hshort
    rw [exec_fillFromArray_of_ready hready, checkStream_of_short hshort]
    rfl

/-! ## FILL_FROM_BUFFER (R132) -/

section

variable {s : State} {m : ColorMode} {o : Orientation} {x0 y0 x1 y1 : Half}

/-- On a ready window the count of the bytes supplied is left to check (V9). -/
theorem exec_fillFromBuffer_of_ready (h : PixelReady s m o x0 y0 x1 y1) :
    exec (.fillFromBuffer x0 y0 x1 y1) s = s.perform (do
      checkStream (byteCount m (windowOf x0 y0 x1 y1)) (streamBytes s.inStream).length
      return (s.dropBytes (byteCount m (windowOf x0 y0 x1 y1))).emit
        (writeTransfer s.par x0 y0 x1 y1
          ((streamBytes s.inStream).take (byteCount m (windowOf x0 y0 x1 y1))))) := by
  simp only [exec, execFillFromBuffer, checkPixels_of_ready h, bind_ok, setWriteWindow_send]
  rfl

theorem exec_fillFromBuffer_of_enough (h : PixelReady s m o x0 y0 x1 y1) {bs : List Byte}
    (hin : s.inStream = .bytes bs) (hlength : byteCount m (windowOf x0 y0 x1 y1) ≤ bs.length) :
    exec (.fillFromBuffer x0 y0 x1 y1) s = .next
      ((s.dropBytes (byteCount m (windowOf x0 y0 x1 y1))).emit
        (writeTransfer s.par x0 y0 x1 y1 (bs.take (byteCount m (windowOf x0 y0 x1 y1))))) := by
  have hbs : streamBytes s.inStream = bs := by rw [hin, streamBytes]
  have hstream : checkStream (byteCount m (windowOf x0 y0 x1 y1)) bs.length = .ok () :=
    checkStream_eq_ok.2 hlength
  rw [exec_fillFromBuffer_of_ready h, hbs, hstream]
  rfl

end

/-- Settles O23: the byte count of the statement is `byteCount`. -/
theorem fillFromBufferStreamsBytesVerbatim : Obligations.FillFromBufferStreamsBytesVerbatim := by
  intro s m o x0 y0 x1 y1 nb hnb
  obtain rfl : nb = byteCount m (windowOf x0 y0 x1 y1) := by cases m <;> exact hnb
  refine ⟨?enough, ?short, refusesBadPixelWindow rfl⟩
  case enough =>
    intro bs hready hin hlength
    refine (exec_fillFromBuffer_of_enough hready hin hlength).trans ?_
    simp [State.dropBytes, State.emit, hin, streamBytes]
  case short =>
    intro hready hshort
    rw [exec_fillFromBuffer_of_ready hready, checkStream_of_short hshort]
    rfl

/-! ## READ_MEMORY (R135) -/

/-- A read window, the dummy read and `n` reads to the OUT stream are one read transfer (R114). -/
theorem readToOut_setReadWindow (n : Nat) (s : State) (x0 y0 x1 y1 : Half) :
    State.readToOut n (s.setReadWindow (windowOf x0 y0 x1 y1)).busReadData = { s with
      trace := s.trace ++ readTransfer s.par x0 y0 x1 y1 (busAnswerAt s 0)
        ((List.range n).map fun k => busAnswerAt s (k + 1)),
      out := s.out ++ (List.range n).map (fun k => busAnswerAt s (k + 1)),
      answers := s.answers.drop (n + 1),
      reads := s.reads + (n + 1) } := by
  have hwindow : s.setReadWindow (windowOf x0 y0 x1 y1) =
      s.emit (windowFrames s.par x0 y0 x1 y1 ++ [.cmd s.par.cmd.ramrd]) := by
    rw [State.setReadWindow, setWindow_windowOf, busCmd_eq_emit, emit_emit]
    rfl
  have hlater (es : List Event) (k : Nat) : busAnswerAt (s.emit es).busReadData k = busAnswerAt s (k + 1) :=
    busAnswerAt_busReadData (s.emit es) k
  rw [readToOut_eq, hwindow]
  simp only [hlater]
  simp [State.busReadData, State.takeAnswer, State.emit, readTransfer, nextAnswer_eq, busAnswerAt]
  omega

/-- Settles O27: behind the checks stands one read transfer. -/
theorem readMemoryDiscardsOneByteAndCopiesTheRest :
    Obligations.ReadMemoryDiscardsOneByteAndCopiesTheRest := by
  intro s m o x0 y0 x1 y1 nb hnb
  obtain rfl : nb = byteCount m (windowOf x0 y0 x1 y1) := by cases m <;> exact hnb
  refine ⟨fun hready => ?_, refusesBadPixelWindow rfl⟩
  rw [← readToOut_setReadWindow]
  simp only [exec, execReadMemory, checkPixels_of_ready hready, bind_ok, pure_eq_ok, perform_ok]

/-! ## Three fills, one trace (R137) -/

theorem enc12Pairs_replicate (k : Nat) (c : Colour) :
    enc12Pairs (List.replicate (2 * k) c) = (List.replicate k (enc12 c c)).flatten := by
  induction k with
  | zero => rfl
  | succ k ih => exact congrArg (enc12 c c ++ ·) ih

/-- Equal colours pack to the data of FILL. -/
theorem encPixels_replicate {m : ColorMode} {j : Nat} (heven : m = .c12 → j % 2 = 0) (c : Colour) :
    encPixels m (List.replicate j c) = .ok (fillBytes m j c) := by
  cases m with
  | c12 =>
    obtain ⟨k, rfl⟩ : 2 ∣ j := Nat.dvd_of_mod_eq_zero (heven rfl)
    have hhalf : 2 * k / 2 = k := by omega
    rw [encPixels_c12_of_even (by simp), enc12Pairs_replicate, fillBytes, hhalf]
  | c16 | c18 => simp [encPixels, fillBytes, List.flatMap_replicate]

/-- FILL's data is as long as its window asks (R136). -/
theorem length_fillBytes {m : ColorMode} {x0 y0 x1 y1 : Half}
    (heven : m = .c12 → windowPixels x0 y0 x1 y1 % 2 = 0) (c : Colour) :
    (fillBytes m (windowPixels x0 y0 x1 y1) c).length = byteCount m (windowOf x0 y0 x1 y1) := by
  have hfill := two_mul_length_fillBytes heven c
  have hcount : 2 * byteCount m (windowOf x0 y0 x1 y1) = windowPixels x0 y0 x1 y1 * bppx2 m :=
    two_mul_byteCount heven
  omega

/-- Settles O29: each of the three appends the write transfer whose data is `fillBytes`. -/
theorem theThreeFillsAgree : Obligations.TheThreeFillsAgree := by
  intro s m o x0 y0 x1 y1 c j hready hj
  obtain rfl : j = windowPixels x0 y0 x1 y1 := hj
  have ⟨_, _, _, heven⟩ := hready
  have hbytes := length_fillBytes heven c
  have hpack := encPixels_replicate heven c
  have harray := exec_fillFromArray_of_enough
    (s := { s with inStream := .colours (List.replicate (windowPixels x0 y0 x1 y1) c) }) hready rfl
    (by simp) (by rwa [List.take_of_length_le (by simp)])
  have hbuffer := exec_fillFromBuffer_of_enough
    (s := { s with inStream := .bytes (fillBytes m (windowPixels x0 y0 x1 y1) c) }) hready rfl hbytes.ge
  rw [List.take_of_length_le hbytes.le] at hbuffer
  exact ⟨_, _, _, _, hpack, exec_fill_of_ready hready c, harray, hbuffer, rfl, rfl, rfl, rfl, rfl⟩

/-! ## Event counts (R136) -/

/-- Ten events of the window, RAMWR, and one event for each byte (R114). -/
theorem length_writeTransfer (p : Params) (x0 y0 x1 y1 : Half) (bs : List Byte) :
    (writeTransfer p x0 y0 x1 y1 bs).length = 11 + bs.length := by
  simp [writeTransfer, windowFrames]
  omega

/-- PUT_CHAR of a legal glyph that ends inside the extent is one write transfer (R155). -/
theorem exec_putChar_of_ready {s : State} {r : TextRegs} {c : Byte} {x y : Half} (hready : TextReady s r)
    (hgeometry : GeometryLegal r.font) (hchar : CharLegal r.font c)
    (hx : x.toNat + r.font.gw.toNat ≤ logicalW r.orient) (hy : y.toNat + r.font.gh.toNat ≤ logicalH r.orient) :
    exec (.putChar c x y) s = .next (s.emit (glyphTransfer s.par r c x.toNat y.toNat)) := by
  obtain ⟨hbias, hslot⟩ := hchar
  have hregs : readTextRegs s = .ok r := readTextRegs_eq_ok.2 hready
  have hrange : checkRange r.orient (glyphWindow r x.toNat y.toNat) = .ok () :=
    checkRange_glyphWindow.2 ⟨hx, hy⟩
  have hpasses : checkChar r.font c 0 = .ok () :=
    checkChar_eq_ok_iff_passes.2 ⟨hbias, .inr hslot⟩
  have hheader : checkGeometry r.font = .ok () := checkGeometry_eq_ok.2 hgeometry
  simp only [exec, execPutChar, hregs, hrange, hpasses, hheader, bind_ok, pure_eq_ok, perform_ok,
    drawGlyph_eq_emit]

/-- A glyph of whole pairs has half `BPPx2()` bytes per pixel (R97, R155). -/
theorem length_glyphBytes_of_even {r : TextRegs} (heven : r.font.gw.toNat % 2 = 0) (c : Byte) :
    (glyphBytes r c).length = r.font.gw.toNat * r.font.gh.toNat * bppx2 r.mode / 2 := by
  obtain ⟨k, hk⟩ : 2 ∣ r.font.gw.toNat := Nat.dvd_of_mod_eq_zero heven
  have htwice : 2 * k * r.font.gh.toNat * bppx2 r.mode = bppx2 r.mode * k * r.font.gh.toNat * 2 := by ring
  rw [length_glyphBytes, hk, htwice, Nat.mul_div_cancel_left k two_pos, Nat.mul_div_cancel _ two_pos]

/-- Settles O21: both operations are one write transfer, counted by the bytes of its data. -/
theorem transfersHaveTheirExactEventCounts : Obligations.TransfersHaveTheirExactEventCounts := by
  refine ⟨fun s t m o x0 y0 x1 y1 c hready hexec => ?fill,
    fun s t r c x y hready hgeometry hchar hx hy hexec => ?putChar⟩
  case fill =>
    have ⟨_, _, _, heven⟩ := hready
    obtain rfl := Host.Outcome.next.inj ((exec_fill_of_ready hready c).symm.trans hexec)
    rw [State.emit_trace, List.length_append, length_writeTransfer,
      length_fillBytes heven c, ← Nat.add_assoc]
    cases m <;> rfl
  case putChar =>
    have ⟨heven, _⟩ := hgeometry
    obtain rfl := Host.Outcome.next.inj
      ((exec_putChar_of_ready hready hgeometry hchar hx hy).symm.trans hexec)
    rw [State.emit_trace, List.length_append, glyphTransfer, length_writeTransfer,
      length_glyphBytes_of_even heven, ← Nat.add_assoc]
    cases r.mode <;> rfl

end Sys2Proof.Proofs
end

section
/-! PROOFS. 43_text.md: the setters of the text registers, PUT_CHAR and the string operations. The three string
operations are one, `putStringAt` (`exec_drawsStringAt`): where every code it draws passes V7, its cells have a closed
form (`stringCells_unpadded`, `stringCells_padded`); where one does not, the cells before it are walked over
(`checkCells_stringCells_append`). -/

namespace Sys2Proof.Proofs

open Sys2Proof.Machine Sys2Proof.Laws

/-! ## The setters (R150, R151) -/

theorem exec_setFont_of_font {f : Byte} {s : State} {t : FontTable} (h : fontOf s.par f = some t) :
    exec (.setFont f) s = .next (s.writeFsize f) := by
  simp [exec, execSetFont, checkFont_eq_ok.2 h]

/-- A selector that names no font is V6. -/
theorem exec_setFont_of_no_font {f : Byte} {s : State} (h : fontOf s.par f = none) :
    exec (.setFont f) s = .next (s.refuse (.badFont f)) := by
  simp [exec, execSetFont, checkFont, h]

/-- Settles O31: a selector names the first font that has it, or no font has it. -/
theorem textSettersStoreTheirOperands : Obligations.TextSettersStoreTheirOperands := by
  intro s
  refine ⟨fun f hlisted => ?listed, fun f hunlisted => ?unlisted, fun _ _ => rfl⟩
  case listed =>
    obtain ⟨t, hfont⟩ : ∃ t, fontOf s.par f = some t := by
      simpa [fontOf, ← Option.isSome_iff_exists] using hlisted
    exact exec_setFont_of_font hfont
  case unlisted =>
    have hfont : fontOf s.par f = none := by simpa [fontOf] using hunlisted
    exact exec_setFont_of_no_font hfont

/-! ## The registers of a text operation (V12) -/

section

variable {s : State} {r : TextRegs} {i : Instr}

theorem readTextRegs_of_ready (h : TextReady s r) : readTextRegs s = .ok r := readTextRegs_eq_ok.2 h

/-- The read of the five registers names the first that is unwritten (R217, log 5). -/
theorem readTextRegs_of_unwritten (h : ∃ n ∈ [RegName.cmode, .orient, .fsize, .fg, .bg], regUnwritten s n) :
    ∃ n ∈ [RegName.cmode, .orient, .fsize, .fg, .bg],
      regUnwritten s n ∧ readTextRegs s = .error (.unwrittenState n) := by
  cases hm : s.cmode with
  | unwritten => exact ⟨.cmode, by simp, hm, by simp [readTextRegs, readPixelRegs, hm]⟩
  | written m =>
  cases ho : s.orient with
  | unwritten => exact ⟨.orient, by simp, ho, by simp [readTextRegs, readPixelRegs, hm, ho]⟩
  | written o =>
  cases hf : s.fsize with
  | unwritten => exact ⟨.fsize, by simp, hf, by simp [readTextRegs, readPixelRegs, hm, ho, hf]⟩
  | written f =>
  cases hfg : s.fg with
  | unwritten => exact ⟨.fg, by simp, hfg, by simp [readTextRegs, readPixelRegs, hm, ho, hf, hfg]⟩
  | written fg =>
    have hbg : s.bg = .unwritten := by simpa [regUnwritten, hm, ho, hf, hfg] using h
    exact ⟨.bg, by simp, hbg, by simp [readTextRegs, readPixelRegs, hm, ho, hf, hfg, hbg]⟩

/-- An operation that begins with the read of the five registers is refused as V12 where one is unwritten. -/
theorem refusesUnwritten_textRegs {f : TextRegs → Except Violation State}
    (hi : exec i s = s.perform (readTextRegs s >>= f)) :
    RefusesUnwritten i s [.cmode, .orient, .fsize, .fg, .bg] := by
  intro hunwritten
  obtain ⟨n, hn, hreg, hread⟩ := readTextRegs_of_unwritten hunwritten
  exact ⟨n, hn, hreg, by rw [hi, hread, bind_error, perform_error]⟩

end

/-! ## The checks of a glyph (V2, V7, V8) -/

theorem charPasses_of_legal {t : FontTable} {c : Byte} : CharLegal t c → CharPasses t c
  | ⟨hbias, hslot⟩ => ⟨hbias, .inr hslot⟩

theorem one_le_gw_of_legal {t : FontTable} : GeometryLegal t → 1 ≤ t.gw.toNat
  | ⟨_, hgw, _⟩ => one_le_two.trans hgw

theorem checkChar_of_outside {t : FontTable} {c : Byte} (h : ¬CharPasses t c) (k : Nat) :
    checkChar t c k = .error (.charRange c k) :=
  require_eq_error.2 ⟨h, rfl⟩

theorem checkGeometry_of_legal {t : FontTable} (h : GeometryLegal t) : checkGeometry t = .ok () :=
  checkGeometry_eq_ok.2 h

theorem checkGeometry_of_illegal {t : FontTable} (h : ¬GeometryLegal t) :
    checkGeometry t = .error (.glyphGeometry t.gw t.gh t.bpg) :=
  require_eq_error.2 ⟨h, rfl⟩

theorem checkRange_glyphWindow_of_outside {r : TextRegs} {x y : Nat}
    (h : ¬(x + r.font.gw.toNat ≤ logicalW r.orient ∧ y + r.font.gh.toNat ≤ logicalH r.orient)) :
    checkRange r.orient (glyphWindow r x y) =
      .error (.windowRange (glyphWindow r x y) (logicalW r.orient) (logicalH r.orient)) :=
  require_eq_error.2 ⟨fun hinside => h (checkRange_glyphWindow.1 (checkRange_eq_ok (u := ()).2 hinside)), rfl⟩

/-- Settles O33: V7 and V8 are the checks behind the bound on the address (R80). -/
theorem glyphRowsLieInTheTable : Obligations.GlyphRowsLieInTheTable := fun _ _ _ hgeometry hchar hrow =>
  ⟨rfl, rowAddr_in_table (k := 0) (checkGeometry_of_legal hgeometry)
    (checkChar_eq_ok_iff_passes.2 (charPasses_of_legal hchar)) hrow⟩

/-! ## PUT_CHAR (R155, R156) -/

/-- PUT_CHAR behind its reads: V2, V7, V8, then one glyph. -/
theorem exec_putChar_of_regs {s : State} {r : TextRegs} (hready : TextReady s r) (c : Byte) (x y : Half) :
    exec (.putChar c x y) s = s.perform (do
      checkRange r.orient (glyphWindow r x.toNat y.toNat)
      checkChar r.font c 0
      checkGeometry r.font
      return s.drawGlyph r c x.toNat y.toNat) := by
  simp only [exec, execPutChar, readTextRegs_of_ready hready, bind_ok]

/-- Settles O34: each class is the first check that does not pass, in the order of the checks. -/
theorem putCharIsRefusedInReportOrder : Obligations.PutCharIsRefusedInReportOrder := by
  intro s r c x y
  refine ⟨refusesUnwritten_textRegs rfl, fun hready => ?_⟩
  rw [exec_putChar_of_regs hready]
  refine ⟨fun houtside => ?outside, fun hx hy => ?inside⟩
  case outside =>
    rw [checkRange_glyphWindow_of_outside houtside]
    rfl
  case inside =>
    have hrange : checkRange r.orient (glyphWindow r x.toNat y.toNat) = .ok () :=
      checkRange_glyphWindow.2 ⟨hx, hy⟩
    rw [hrange, bind_ok]
    refine ⟨fun hchar => ?charRange, fun hchar hgeometry => ?geometry⟩
    case charRange =>
      rw [checkChar_of_outside hchar]
      rfl
    case geometry =>
      have hpasses : checkChar r.font c 0 = .ok () := checkChar_eq_ok_iff_passes.2 hchar
      rw [hpasses, bind_ok, checkGeometry_of_illegal hgeometry]
      rfl

/-- The mask of pixel `k` selects bit `7 - k` of the row, so pixel 0 is the leftmost (R72, D17). -/
theorem and_glyphMask_ne_zero (b : Byte) {k : Nat} (hk : k < 8) :
    b &&& glyphMask k ≠ 0#8 ↔ b.getLsbD (7 - k) = true := by
  obtain ⟨hmask, hne⟩ : glyphMask k = BitVec.twoPow 8 (7 - k) ∧ BitVec.twoPow 8 (7 - k) ≠ 0#8 := by
    interval_cases k <;> decide
  rw [hmask, BitVec.and_twoPow]
  cases b.getLsbD (7 - k) <;> simp [hne]

/-- The pixels of row `r`, taken two at a time. -/
def glyphRowPairs (t : TextRegs) (c : Byte) (r : Nat) : List (Colour × Colour) :=
  (List.range (t.font.gw.toNat / 2)).map fun k =>
    (glyphPixel t.font t.fg t.bg c r (2 * k), glyphPixel t.font t.fg t.bg c r (2 * k + 1))

theorem glyphBytes_eq_flatMap_encPair (t : TextRegs) (c : Byte) :
    glyphBytes t c = ((List.range t.font.gh.toNat).flatMap (glyphRowPairs t c)).flatMap fun q =>
      encPair t.mode q.1 q.2 := by
  simp only [glyphBytes, List.flatMap_assoc, glyphRowPairs, List.flatMap_map]
  rfl

/-- A sequence of even length is its pairs, one after the other. -/
theorem pixelsOf_range (f : Nat → Colour) (n : Nat) :
    pixelsOf ((List.range n).map fun k => (f (2 * k), f (2 * k + 1))) = (List.range (2 * n)).map f := by
  induction n with
  | zero => rfl
  | succ n ih =>
    rw [List.range_succ, List.map_append, pixelsOf, List.flatMap_append, ← pixelsOf, ih, Nat.mul_succ,
      List.range_succ, List.range_succ]
    simp

/-- A glyph of whole pairs is ENC_PIXELS of its pixels, row by row (R156). -/
theorem encPixels_glyph {t : TextRegs} (heven : t.font.gw.toNat % 2 = 0) (c : Byte) :
    encPixels t.mode ((List.range t.font.gh.toNat).flatMap fun r =>
      (List.range t.font.gw.toNat).map (glyphPixel t.font t.fg t.bg c r)) = .ok (glyphBytes t c) := by
  have hwidth : t.font.gw.toNat = 2 * (t.font.gw.toNat / 2) := by omega
  have hrow (r : Nat) : (List.range t.font.gw.toNat).map (glyphPixel t.font t.fg t.bg c r) =
      pixelsOf (glyphRowPairs t c r) := by
    rw [glyphRowPairs, pixelsOf_range, ← hwidth]
  have hrows : ((List.range t.font.gh.toNat).flatMap fun r => pixelsOf (glyphRowPairs t c r)) =
      pixelsOf ((List.range t.font.gh.toNat).flatMap (glyphRowPairs t c)) := by
    simp only [pixelsOf, List.flatMap_assoc]
  simp only [hrow, hrows]
  rw [glyphBytes_eq_flatMap_encPair]
  exact evenSequencesPackPairByPair t.mode _

/-- Settles O32: PUT_CHAR is one transfer of the glyph (`exec_putChar_of_ready`), whose pixels the statement
selects by bit and the model by mask. -/
theorem putCharBlitsTheGlyphRowMajor : Obligations.PutCharBlitsTheGlyphRowMajor := by
  intro s r c x y hready hgeometry hchar hx hy
  have ⟨heven, _, hwidth, _⟩ := hgeometry
  refine ⟨glyphBytes r c, ?data, ?transfer⟩
  case data =>
    rw [← encPixels_glyph heven]
    refine congrArg (encPixels r.mode) (List.flatMap_congr fun row _ => List.map_congr_left fun k hk => ?_)
    have hk8 : k < 8 := (List.mem_range.1 hk).trans_le hwidth
    exact if_congr (and_glyphMask_ne_zero _ hk8).symm rfl rfl
  case transfer =>
    rw [exec_putChar_of_ready hready hgeometry hchar hx hy, glyphTransfer, BitVec.ofNat_toNat,
      BitVec.ofNat_toNat]
    rfl

/-! ## The cells of a string (R157, R160, R161) -/

section

variable {s : State} {r : TextRegs} {pad : Bool} {c : Byte} {cs ds : List Byte} {x y : Nat}

theorem drawnCells_of_fits (h : y + r.font.gh.toNat ≤ logicalH r.orient) (pad : Bool) (cs : List Byte) (x : Nat) :
    drawnCells r pad cs x y = stringCells r pad cs x :=
  if_neg (Nat.not_lt.2 h)

theorem drawnCells_of_tooTall (h : logicalH r.orient < y + r.font.gh.toNat) (pad : Bool) (cs : List Byte) (x : Nat) :
    drawnCells r pad cs x y = [] :=
  if_pos h

/-- A code whose glyph ends inside the width is drawn, and the rest of the string behind it. -/
theorem stringCells_cons (h : x + r.font.gw.toNat ≤ logicalW r.orient) :
    stringCells r pad (c :: cs) x = (c, x) :: stringCells r pad cs (x + r.font.gw.toNat) := by
  have hfits : ¬x + r.font.gw.toNat > logicalW r.orient := Nat.not_lt.2 h
  cases pad <;> simp [stringCells, drawRun, hfits]

/-- Behind the string a pad that fits is a space. -/
theorem stringCells_nil_of_pad (h : x + r.font.gw.toNat ≤ logicalW r.orient) :
    ∃ cells, stringCells r true [] x = (0x20#8, x) :: cells := by
  obtain ⟨width, hwidth⟩ : ∃ width, logicalW r.orient = width + 1 := by
    cases r.orient <;> exact ⟨_, rfl⟩
  rw [hwidth] at h
  simp [stringCells, drawRun, hwidth, padRun, h]

/-- Without padding, the cells are the codes that fit (R157). -/
theorem stringCells_unpadded (hgw : 1 ≤ r.font.gw.toNat) (cs : List Byte) (x : Nat) :
    stringCells r false cs x =
      (List.range (min cs.length ((logicalW r.orient - x) / r.font.gw.toNat))).map fun k =>
        (cs.getD k 0#8, x + k * r.font.gw.toNat) := by
  simp [stringCells, drawRun_eq hgw]

/-- With padding, the cells fill the line: behind the string stand spaces (R161). -/
theorem stringCells_padded (hgw : 1 ≤ r.font.gw.toNat) (cs : List Byte) (x : Nat) :
    stringCells r true cs x =
      (List.range ((logicalW r.orient - x) / r.font.gw.toNat)).map fun k =>
        (if k < cs.length then cs.getD k 0#8 else 0x20#8, x + k * r.font.gw.toNat) := by
  generalize hn : (logicalW r.orient - x) / r.font.gw.toNat = n
  have hpads : (logicalW r.orient - (x + min cs.length n * r.font.gw.toNat)) / r.font.gw.toNat =
      n - min cs.length n := by
    rw [Nat.sub_add_eq, Nat.mul_comm, Nat.sub_mul_div, hn]
  have hfuel : n - min cs.length n ≤ logicalW r.orient := by
    rw [← hpads]
    exact (Nat.div_le_self _ _).trans (Nat.sub_le _ _)
  have hsplit : n = min cs.length n + (n - min cs.length n) := by omega
  conv_rhs => rw [hsplit, List.range_add, List.map_append]
  simp only [stringCells, drawRun_eq hgw, hn, if_true]
  rw [padRun_eq hgw _ _ _ (hpads.trans_le hfuel), hpads, List.map_map]
  congr 1
  · refine List.map_congr_left fun k hk => ?_
    have hk' : k < cs.length := (List.mem_range.1 hk).trans_le (min_le_left ..)
    rw [if_pos hk']
  · refine List.map_congr_left fun k hk => ?_
    have hk' : ¬min cs.length n + k < cs.length := by
      have := List.mem_range.1 hk
      omega
    rw [Function.comp_apply, if_neg hk', Nat.add_mul, Nat.add_assoc]

/-- The glyphs of a run are one transfer for each cell (R155, R157). -/
theorem drawCells_eq_emit_transfers (r : TextRegs) (y : Nat) (cells : List Cell) (s : State) :
    State.drawCells r y cells s =
      s.emit (cells.flatMap fun cell => glyphTransfer s.par r cell.1 cell.2 y) := by
  induction cells generalizing s with
  | nil => simp [State.drawCells]
  | cons cell cells ih =>
    obtain ⟨c, cx⟩ := cell
    rw [State.drawCells, drawGlyph_eq_emit, ih]
    simp

/-! ## Cells that pass or do not pass their checks (V7) -/

/-- Under a legal width the glyphs that fit are the first `(W() - x) / gw` (R157). -/
theorem lt_of_cellFits {k : Nat} (hgw : 1 ≤ r.font.gw.toNat) (h : CellFits r x y k) :
    k < (logicalW r.orient - x) / r.font.gw.toNat := by
  obtain ⟨-, hx⟩ := h
  exact (Nat.le_div_iff_mul_le hgw).2 (Nat.le_sub_of_add_le' hx)

/-- A string that is too tall draws no code, so there is none to check (R160). -/
theorem drawnCodesPass_of_tooTall (h : logicalH r.orient < y + r.font.gh.toNat) :
    DrawnCodesPass r pad cs x y :=
  ⟨fun _ _ _ hfits => absurd hfits.1 (Nat.not_le.2 h), fun _ hfits => absurd hfits.1 (Nat.not_le.2 h)⟩

/-- Under a legal width it is enough that the first `(W() - x) / gw` codes have a slot, and the space where they are
more than the string. -/
theorem drawnCodesPass_of_legal (hgw : 1 ≤ r.font.gw.toNat)
    (hcodes : ∀ c ∈ cs.take ((logicalW r.orient - x) / r.font.gw.toNat), CharLegal r.font c)
    (hspace : pad = true → cs.length < (logicalW r.orient - x) / r.font.gw.toNat → CharLegal r.font 0x20#8) :
    DrawnCodesPass r pad cs x y := by
  refine ⟨fun k c hc hfits => charPasses_of_legal (hcodes c ?_),
    fun hpad hfits => charPasses_of_legal (hspace hpad (lt_of_cellFits hgw hfits))⟩
  refine List.mem_of_getElem? (i := k) ?_
  rw [List.getElem?_take_of_lt (lt_of_cellFits hgw hfits), hc]

/-- Codes that fit and pass V7 are walked over, whatever stands behind them. -/
theorem checkCells_stringCells_append (hy : y + r.font.gh.toNat ≤ logicalH r.orient)
    (hx : x + ds.length * r.font.gw.toNat ≤ logicalW r.orient) (hpass : ∀ d ∈ ds, CharPasses r.font d) (k : Nat) :
    checkCells r y (stringCells r pad (ds ++ cs) x) k =
      checkCells r y (stringCells r pad cs (x + ds.length * r.font.gw.toNat)) (k + ds.length) := by
  induction ds generalizing x k with
  | nil => simp
  | cons d ds ih =>
    obtain ⟨hd, hds⟩ := List.forall_mem_cons.1 hpass
    rw [List.length_cons, Nat.succ_mul] at hx
    have hfits : x + r.font.gw.toNat ≤ logicalW r.orient := by omega
    have hrange : checkRange r.orient (glyphWindow r x y) = .ok () := checkRange_glyphWindow.2 ⟨hfits, hy⟩
    have hchar : checkChar r.font d k = .ok () := checkChar_eq_ok_iff_passes.2 hd
    rw [List.cons_append, stringCells_cons hfits, checkCells, hrange, hchar, bind_ok, bind_ok,
      ih (by omega) hds, List.length_cons, Nat.succ_mul, Nat.add_right_comm k, Nat.add_assoc k,
      Nat.add_assoc x, Nat.add_comm r.font.gw.toNat]

/-- A cell inside the extent whose code is outside the font is V7. -/
theorem checkCells_cons_of_outside (hy : y + r.font.gh.toNat ≤ logicalH r.orient)
    (hx : x + r.font.gw.toNat ≤ logicalW r.orient) (hc : ¬CharPasses r.font c) (cells : List Cell) (k : Nat) :
    checkCells r y ((c, x) :: cells) k = .error (.charRange c k) := by
  have hrange : checkRange r.orient (glyphWindow r x y) = .ok () := checkRange_glyphWindow.2 ⟨hx, hy⟩
  rw [checkCells, hrange, checkChar_of_outside hc]
  rfl

/-- The first code outside the font is V7 at its place behind the codes before it (R212, log 5). -/
theorem checkCells_drawnCells_of_code (hfits : CellFits r x y ds.length) (hpass : ∀ d ∈ ds, CharPasses r.font d)
    (hc : ¬CharPasses r.font c) :
    checkCells r y (drawnCells r pad (ds ++ c :: cs) x y) 0 = .error (.charRange c ds.length) := by
  obtain ⟨hy, hx⟩ := hfits
  rw [Nat.succ_mul] at hx
  rw [drawnCells_of_fits hy, checkCells_stringCells_append hy (by omega) hpass, stringCells_cons (by omega),
    checkCells_cons_of_outside hy (by omega) hc, Nat.zero_add]

/-- A pad that fits is V7 at its place behind the string where the font has no space (log 22). -/
theorem checkCells_drawnCells_of_pad (hfits : CellFits r x y cs.length) (hpass : ∀ d ∈ cs, CharPasses r.font d)
    (hc : ¬CharPasses r.font 0x20#8) :
    checkCells r y (drawnCells r true cs x y) 0 = .error (.charRange 0x20#8 cs.length) := by
  obtain ⟨hy, hx⟩ := hfits
  rw [Nat.succ_mul] at hx
  obtain ⟨cells, hcells⟩ :=
    stringCells_nil_of_pad (r := r) (x := x + cs.length * r.font.gw.toNat) (by omega)
  have hwalk := checkCells_stringCells_append (x := x) (pad := true) (cs := []) hy (by omega) hpass 0
  rw [List.append_nil, hcells, checkCells_cons_of_outside hy (by omega) hc, Nat.zero_add] at hwalk
  rw [drawnCells_of_fits hy, hwalk]

end

/-! ## The string operations (R160 to R162) -/

section

variable {s : State} {r : TextRegs} {i : Instr} {y len : Half} {pad : Bool} {x : Nat} {cs : List Byte}

/-- A string operation begins with the read of the five registers. -/
theorem exec_drawsStringAt_reads (hi : DrawsStringAt i r y len pad x) :
    ∃ f, exec i s = s.perform (readTextRegs s >>= f) := by
  obtain ⟨xa, -, ⟨rfl, -⟩ | ⟨rfl, -⟩⟩ | ⟨rfl, -, -⟩ := hi
  all_goals exact ⟨_, rfl⟩

/-- Behind its reads, a string operation is `putStringAt` from its origin. -/
theorem exec_drawsStringAt (hi : DrawsStringAt i r y len pad x) (hready : TextReady s r) :
    exec i s = s.perform (putStringAt r pad x y.toNat len.toNat s) := by
  have hregs : readTextRegs s = .ok r := readTextRegs_of_ready hready
  obtain ⟨xa, rfl, ⟨rfl, rfl⟩ | ⟨rfl, rfl⟩⟩ | ⟨rfl, rfl, rfl⟩ := hi
  · simp only [exec, execPutString, hregs, bind_ok]
  · simp only [exec, execPutStringClearToEol, hregs, bind_ok]
  · simp only [exec, execPutStringCentered, hregs, bind_ok, centredX]

/-- A cell that does not pass its checks refuses the string, before V8 and V9. -/
theorem exec_drawsStringAt_of_checkCells (hi : DrawsStringAt i r y len pad x) (hready : TextReady s r)
    {v : Violation} (h : checkCells r y.toNat
      (drawnCells r pad ((streamBytes s.inStream).take len.toNat) x y.toNat) 0 = .error v) :
    exec i s = .next (s.refuse v) := by
  rw [exec_drawsStringAt hi hready, putStringAt, h]
  rfl

/-- Where every drawn code passes V7, the header and the length of the stream are left to check. -/
theorem exec_drawsStringAt_of_pass (hi : DrawsStringAt i r y len pad x) (hready : TextReady s r)
    (hpass : DrawnCodesPass r pad ((streamBytes s.inStream).take len.toNat) x y.toNat) :
    exec i s = s.perform (do
      checkGeometry r.font
      checkStream len.toNat (streamBytes s.inStream).length
      return State.drawCells r y.toNat
        (drawnCells r pad ((streamBytes s.inStream).take len.toNat) x y.toNat) (s.dropBytes len.toNat)) := by
  rw [exec_drawsStringAt hi hready, putStringAt, checkCells_drawnCells hpass, bind_ok]

theorem getD_take_of_lt {k n : Nat} (h : k < n) (cs : List Byte) : (cs.take n).getD k 0#8 = cs.getD k 0#8 := by
  rw [List.getD_eq_getElem?_getD, List.getElem?_take_of_lt h, ← List.getD_eq_getElem?_getD]

/-- Where all checks pass, a string operation consumes its codes and sends one transfer for each cell. -/
theorem exec_drawsStringAt_of_enough (hi : DrawsStringAt i r y len pad x) (hready : TextReady s r)
    (hgeometry : GeometryLegal r.font) (hin : s.inStream = .bytes cs) (hlength : len.toNat ≤ cs.length)
    (hpass : DrawnCodesPass r pad (cs.take len.toNat) x y.toNat) :
    exec i s = .next { s with
      inStream := .bytes (cs.drop len.toNat),
      trace := s.trace ++ (drawnCells r pad (cs.take len.toNat) x y.toNat).flatMap fun cell =>
        glyphTransfer s.par r cell.1 cell.2 y.toNat } := by
  have hcs : streamBytes s.inStream = cs := by rw [hin, streamBytes]
  have hstream : checkStream len.toNat cs.length = .ok () := checkStream_eq_ok.2 hlength
  rw [exec_drawsStringAt_of_pass hi hready (by rwa [hcs]), checkGeometry_of_legal hgeometry, hcs, bind_ok, hstream,
    bind_ok, pure_eq_ok, perform_ok, drawCells_eq_emit_transfers]
  simp [State.dropBytes, State.emit, hcs]

/-- A string that does not pad draws the codes that fit, where these have a slot (R157). -/
theorem exec_drawsStringAt_unpadded (hi : DrawsStringAt i r y len false x) (hready : TextReady s r)
    (hgeometry : GeometryLegal r.font) (hin : s.inStream = .bytes cs) (hlength : len.toNat ≤ cs.length)
    (hy : y.toNat + r.font.gh.toNat ≤ logicalH r.orient) {n : Nat}
    (hn : n = min len.toNat ((logicalW r.orient - x) / r.font.gw.toNat))
    (hcodes : ∀ c ∈ cs.take n, CharLegal r.font c) :
    exec i s = .next { s with
      inStream := .bytes (cs.drop len.toNat),
      trace := s.trace ++ (List.range n).flatMap (fun k =>
        glyphTransfer s.par r (cs.getD k 0#8) (x + k * r.font.gw.toNat) y.toNat) } := by
  have hgw : 1 ≤ r.font.gw.toNat := one_le_gw_of_legal hgeometry
  have hpass : DrawnCodesPass r false (cs.take len.toNat) x y.toNat :=
    drawnCodesPass_of_legal hgw (by rwa [List.take_take, Nat.min_comm, ← hn]) (by simp)
  rw [exec_drawsStringAt_of_enough hi hready hgeometry hin hlength hpass, drawnCells_of_fits hy,
    stringCells_unpadded hgw, List.length_take_of_le hlength, ← hn, List.flatMap_map]
  have hdrawn : ∀ k ∈ List.range n,
      glyphTransfer s.par r ((cs.take len.toNat).getD k 0#8) (x + k * r.font.gw.toNat) y.toNat =
        glyphTransfer s.par r (cs.getD k 0#8) (x + k * r.font.gw.toNat) y.toNat := by
    intro k hk
    have hk' : k < len.toNat := (List.mem_range.1 hk).trans_le (hn.trans_le (min_le_left ..))
    rw [getD_take_of_lt hk']
  rw [List.flatMap_congr hdrawn]

end

/-- Settles O39: the checks are taken in their order, V7 where the walk over the cells stops. -/
theorem stringsAreRefusedByClass : Obligations.StringsAreRefusedByClass := by
  rintro s r y len i pad x cs hi rfl
  obtain ⟨f, hf⟩ := exec_drawsStringAt_reads (s := s) hi
  refine ⟨refusesUnwritten_textRegs hf, fun hready => ⟨?code, ?pad, ?geometry, ?stream⟩⟩
  case code =>
    intro k c hc hfits hpass houtside
    obtain ⟨hk, hget⟩ := List.getElem?_eq_some_iff.1 hc
    refine exec_drawsStringAt_of_checkCells hi hready ?_
    generalize (streamBytes s.inStream).take len.toNat = cs at *
    have hbefore : (cs.take k).length = k := List.length_take_of_le hk.le
    have hsplit : cs = cs.take k ++ c :: cs.drop (k + 1) := by
      rw [← hget, List.cons_getElem_drop_succ, List.take_append_drop]
    have hwalk := checkCells_drawnCells_of_code (pad := pad) (cs := cs.drop (k + 1)) (by rwa [hbefore]) hpass houtside
    rwa [← hsplit, hbefore] at hwalk
  case pad =>
    rintro rfl hfits hpass houtside
    exact exec_drawsStringAt_of_checkCells hi hready (checkCells_drawnCells_of_pad hfits hpass houtside)
  case geometry =>
    intro hpass hgeometry
    rw [exec_drawsStringAt_of_pass hi hready hpass, checkGeometry_of_illegal hgeometry]
    rfl
  case stream =>
    intro hpass hgeometry hshort
    rw [exec_drawsStringAt_of_pass hi hready hpass, checkGeometry_of_legal hgeometry, bind_ok,
      checkStream_of_short hshort]
    rfl

/-- Settles O38: no cell is drawn, so no code is checked. -/
theorem tooTallStringsAreRejectedSilently : Obligations.TooTallStringsAreRejectedSilently := by
  intro s r x y len cs hready hgeometry hin hlength htall
  have silent {i : Instr} {pad : Bool} {x : Nat} (hi : DrawsStringAt i r y len pad x) :
      exec i s = .next { s with inStream := .bytes (cs.drop len.toNat) } := by
    rw [exec_drawsStringAt_of_enough hi hready hgeometry hin hlength (drawnCodesPass_of_tooTall htall),
      drawnCells_of_tooTall htall, List.flatMap_nil, List.append_nil]
  simp only [List.forall_mem_cons, List.not_mem_nil, IsEmpty.forall_iff, implies_true, and_true]
  exact ⟨silent (.inl ⟨x, rfl, .inl ⟨rfl, rfl⟩⟩), silent (.inl ⟨x, rfl, .inr ⟨rfl, rfl⟩⟩),
    silent (.inr ⟨rfl, rfl, rfl⟩)⟩

/-- Settles O35: PUT_STRING draws from its operand on and does not pad. -/
theorem putStringDrawsTheGlyphsThatFit : Obligations.PutStringDrawsTheGlyphsThatFit :=
  fun _ _ x _ _ _ _ hready hgeometry hin hlength hy hn hcodes =>
    exec_drawsStringAt_unpadded (.inl ⟨x, rfl, .inl ⟨rfl, rfl⟩⟩) hready hgeometry hin hlength hy hn hcodes

/-- Settles O36: PUT_STRING_CLEAR_TO_EOL draws the cells of `stringCells_padded`. -/
theorem clearToEolFillsTheLine : Obligations.ClearToEolFillsTheLine := by
  rintro s r x y len cs n hready hgeometry hin hlength hy rfl hcodes hspace
  have hgw : 1 ≤ r.font.gw.toNat := one_le_gw_of_legal hgeometry
  have hcount : (cs.take len.toNat).length = len.toNat := List.length_take_of_le hlength
  have hpass : DrawnCodesPass r true (cs.take len.toNat) x.toNat y.toNat :=
    drawnCodesPass_of_legal hgw hcodes fun _ => by rwa [hcount]
  rw [exec_drawsStringAt_of_enough (.inl ⟨x, rfl, .inr ⟨rfl, rfl⟩⟩) hready hgeometry hin hlength hpass,
    drawnCells_of_fits hy, stringCells_padded hgw, hcount, List.flatMap_map]
  have hcode (k : Nat) : (if k < len.toNat then (cs.take len.toNat).getD k 0#8 else 0x20#8) =
      if k < len.toNat then cs.getD k 0#8 else 0x20#8 := by
    split_ifs with hk
    · rw [getD_take_of_lt hk]
    · rfl
  simp only [hcode]

/-- Where the text fits it is centred to the column, as `W()` and the text width are even (R153, R162). -/
theorem two_mul_centredX {o : Orientation} {gw : Nat} (heven : gw % 2 = 0) {len : Nat}
    (hfits : len * gw ≤ logicalW o) : 2 * centredX (logicalW o) (len * gw) + len * gw = logicalW o := by
  have hwidth : logicalW o % 2 = 0 := by cases o <;> rfl
  have htext : len * gw % 2 = 0 := by rw [Nat.mul_mod, heven, Nat.mul_zero, Nat.zero_mod]
  rw [centredX, if_neg (Nat.not_lt.2 hfits)]
  omega

/-- The origin lies in the width, so it is an operand of PUT_STRING. -/
theorem centredX_lt (o : Orientation) (textWidth : Nat) : centredX (logicalW o) textWidth < 2 ^ 16 := by
  have hwidth : logicalW o ≤ 208 := by cases o <;> decide
  unfold centredX
  split <;> omega

/-- Settles O37: PUT_STRING_CENTERED and PUT_STRING at the centred origin are the same `putStringAt`. -/
theorem centeredStringsAreCentred : Obligations.CenteredStringsAreCentred := by
  rintro s r y len cs _ x n hready hgeometry hin hlength hy rfl hx hn hcodes
  have ⟨heven, _⟩ := hgeometry
  replace hx : x = centredX (logicalW r.orient) (len.toNat * r.font.gw.toNat) := hx
  have hcentred : DrawsStringAt (.putStringCentered y len) r y len false x := .inr ⟨rfl, rfl, hx⟩
  have hoperand : x = (BitVec.ofNat 16 x).toNat := by
    rw [BitVec.toNat_ofNat, Nat.mod_eq_of_lt (hx.trans_lt (centredX_lt ..))]
  have hstring : DrawsStringAt (.putString (BitVec.ofNat 16 x) y len) r y len false x :=
    .inl ⟨_, hoperand, .inl ⟨rfl, rfl⟩⟩
  refine ⟨fun hfits => ?margins, ?same,
    exec_drawsStringAt_unpadded hcentred hready hgeometry hin hlength hy hn hcodes⟩
  case margins =>
    rw [hx]
    exact two_mul_centredX heven hfits
  case same => rw [exec_drawsStringAt hcentred hready, exec_drawsStringAt hstring hready]

end Sys2Proof.Proofs
end

section
/-! PROOFS. 44_mode_power.md: the mode and power emitters and INIT. An emitter is a fixed list of events. The three with
a precondition are one check in front of their events (`perform_require_of_holds`, `perform_require_of_fails`), and
INIT is the hardware reset and the emitters R200 names, put together by `emit_emit`. -/

namespace Sys2Proof.Proofs

open Sys2Proof.Machine Sys2Proof.Laws

/-! ## Emitters without a precondition (R180 to R188, R190 to R192) -/

/-- Settles O40: each emitter is one wire command. -/
theorem commandEmittersSendTheirCommand : Obligations.CommandEmittersSendTheirCommand := fun s v =>
  ⟨next_busCmd s .slpin, next_busCmd s .dispon, next_busCmd s .dispoff, next_busCmd s .idmon,
    next_busCmd s .idmoff, next_busCmd s .invon, next_busCmd s .invoff, next_busCmd s .noron,
    next_busCmd s .teoff, next_wireCmd s .gamset [v], next_wireCmd s .teon [v]⟩

/-- The settling delay stands behind the command (R181, D24). -/
theorem sleepOut_eq_emit (s : State) :
    s.sleepOut = s.emit [.cmd s.par.cmd.slpout, .dly s.par.delays.slpout] := by
  rw [State.sleepOut, busCmd_eq_emit, delay_eq_emit, emit_emit]
  rfl

/-- Settles O41: the two events are the whole effect. -/
theorem sleepOutWaitsBeforeItCompletes : Obligations.SleepOutWaitsBeforeItCompletes := fun s =>
  congrArg Host.Outcome.next (sleepOut_eq_emit s)

/-! ## Emitters behind one precondition (R189, R193, R194) -/

section

variable {p : Prop} [Decidable p] {s t : State} {v : Violation}

theorem perform_require_of_holds (h : p) : s.perform (require p v >>= fun _ => pure t) = .next t := by
  rw [require_eq_ok (u := ()).2 h, bind_ok, pure_eq_ok, perform_ok]

theorem perform_require_of_fails (h : ¬p) :
    s.perform (require p v >>= fun _ => pure t) = .next (s.refuse v) := by
  rw [require_eq_error.2 ⟨h, rfl⟩, bind_error, perform_error]

end

/-- PARTIAL_MODE on rows in order and on the panel sends partial-mode-on, then the partial area (R189). -/
theorem exec_partialMode_of_legal {ya yb : Half} (horder : ya.toNat ≤ yb.toNat) (hrange : yb.toNat < panelH)
    (s : State) : exec (.partialMode ya yb) s =
      .next ((s.busCmd .ptlon).wireCmd .ptlar (bytes16 ya ++ bytes16 yb)) :=
  perform_require_of_holds ⟨horder, hrange⟩

/-- Settles O42: V13 is the check that does not pass where one of its two parts does not. -/
theorem partialModeSendsItsRows : Obligations.PartialModeSendsItsRows := by
  intro s ya yb
  refine ⟨fun horder hrange => ?legal, fun hillegal => ?refused⟩
  case legal =>
    rw [exec_partialMode_of_legal horder hrange, busCmd_eq_emit, wireCmd_eq_emit, emit_emit]
    rfl
  case refused =>
    refine perform_require_of_fails fun ⟨horder, hrange⟩ => ?_
    exact hillegal.elim horder.not_gt hrange.not_ge

/-- The bottom area is what top and height leave of the 208 rows, so it fits its two bytes (R193). -/
theorem coordBytes_bottomFixed {top height b : Half} (h : top.toNat + height.toNat + b.toNat = panelH) :
    coordBytes (bottomFixed top.toNat height.toNat) = bytes16 b := by
  have hrest : bottomFixed top.toNat height.toNat = b.toNat := by
    rw [bottomFixed, ← h]
    omega
  rw [hrest, coordBytes_toNat]

/-- SCROLL_AREA on a sum within the panel sends its operands and the bottom area (R193). -/
theorem exec_scrollArea_of_legal {top height : Half} (h : top.toNat + height.toNat ≤ panelH) (s : State) :
    exec (.scrollArea top height) s = .next (s.wireCmd .vscrdef
      (bytes16 top ++ bytes16 height ++ coordBytes (bottomFixed top.toNat height.toNat))) :=
  perform_require_of_holds h

/-- Settles O43: V11 compares the sum over the naturals, so a sum that passes leaves the bottom area. -/
theorem scrollAreaSendsTheBottomFixedArea : Obligations.ScrollAreaSendsTheBottomFixedArea := by
  intro s top height
  refine ⟨fun b hsum => ?legal, fun hsum => ?refused⟩
  case legal =>
    have hfits : top.toNat + height.toNat ≤ panelH := Nat.le.intro hsum
    rw [exec_scrollArea_of_legal hfits, coordBytes_bottomFixed hsum, next_wireCmd]
    rfl
  case refused => exact perform_require_of_fails hsum.not_ge

/-- SCROLL_START on a row of the panel sends its position (R194). -/
theorem exec_scrollStart_of_legal {position : Half} (h : position.toNat < panelH) (s : State) :
    exec (.scrollStart position) s = .next (s.wireCmd .vscrsadd (bytes16 position)) :=
  perform_require_of_holds h

/-- Settles O44: the position is a row of the panel or is V13. -/
theorem scrollStartSendsItsPosition : Obligations.ScrollStartSendsItsPosition := by
  intro s position
  refine ⟨fun hrow => ?legal, fun hrow => ?refused⟩
  case legal =>
    rw [exec_scrollStart_of_legal hrow, next_wireCmd]
    rfl
  case refused => exact perform_require_of_fails hrow.not_gt

/-! ## INIT (R200) -/

/-- The hardware reset is the first four events of INIT (R242). -/
theorem controllerReset_eq_emit (s : State) :
    s.controllerReset = s.emit [.rst .assert, .dly s.par.delays.resetHold, .rst .release,
      .dly s.par.delays.resetSettle] := by
  simp only [State.controllerReset, resetLine_eq_emit, delay_eq_emit, emit_emit]
  rfl

/-- Settles O45: INIT uses SLEEP_OUT, so its delay stands inside the sequence (D24), and the status comes last. -/
theorem initEmitsElevenEventsAndStatusOk : Obligations.InitEmitsElevenEventsAndStatusOk := by
  intro s tAddr tData
  simp only [exec, execInit, controllerReset_eq_emit, sleepOut_eq_emit, busCmd_eq_emit, delay_eq_emit, emit_emit]
  rfl

end Sys2Proof.Proofs
end

section
/-! PROOFS. 60_exceptions.md: which operations can be refused, as what, and what a refusal leaves in place. An operation
runs or is refused (`exec_runsOrRefuses`), and what it can be refused as is what one of its checks can report
(`ReportsOnly`). -/

namespace Sys2Proof.Proofs

open Sys2Proof.Machine Sys2Proof.Laws

/-! ## A refusal changes nothing else (R214, R218) -/

/-- The two ways an operation reaches its next state: by its effect, or by its refusal. -/
theorem keepsHistory_or_refuse_of_exec {i : Instr} {s t : State} (h : exec i s = .next t) :
    KeepsHistory s t ∨ ∃ v, t = s.refuse v := by
  obtain ⟨u, hu, hcases⟩ := exec_runsOrRefuses i s
  obtain rfl : t = u := by simpa [h] using hu
  exact hcases

/-- Settles O49: the effect of an operation leaves the refusal mark alone, and a refusal changes nothing but it. -/
theorem aRefusalChangesNothingElse : Obligations.ARefusalChangesNothingElse := fun _ _ _ hexec =>
  (keepsHistory_or_refuse_of_exec hexec).imp_left KeepsHistory.refusals

/-! ## The classes a check reports -/

/-- Where the check does not pass, the class it names is one of `P` (R212). -/
def ReportsOnly (P : Nat → Prop) {α : Type} (x : Except Violation α) : Prop :=
  ∀ v, x = .error v → P (violationClass v)

namespace ReportsOnly

variable {P : Nat → Prop} {α β : Type}

theorem ok (a : α) : ReportsOnly P (.ok a) := by
  rintro _ ⟨⟩

theorem bind {x : Except Violation α} {f : α → Except Violation β} (hx : ReportsOnly P x)
    (hf : ∀ a, ReportsOnly P (f a)) : ReportsOnly P (x >>= f) := by
  intro v hv
  obtain hfail | ⟨a, -, hfail⟩ := bind_eq_error.1 hv
  · exact hx v hfail
  · exact hf a v hfail

theorem require {p : Prop} [Decidable p] {v : Violation} (h : P (violationClass v)) :
    ReportsOnly P (require p v) := by
  intro w hw
  obtain ⟨-, rfl⟩ := require_eq_error.1 hw
  exact h

/-- The read of a register is refused as V12 alone (R20). -/
theorem readReg (h : P 12) {n : RegName} {r : ConfigReg α} : ReportsOnly P (readReg n r) := by
  intro v hv
  obtain ⟨-, rfl⟩ := readReg_eq_error.1 hv
  exact h

/-- A selector that names no font is V6 (R150). -/
theorem checkFont (h : P 6) {p : Params} {f : Byte} : ReportsOnly P (checkFont p f) := by
  unfold Machine.checkFont
  split
  · exact .ok _
  · rintro _ ⟨⟩
    exact h

theorem readTextRegs (hfont : P 6) (hread : P 12) {s : State} : ReportsOnly P (readTextRegs s) :=
  .bind (.bind (.readReg hread) fun _ => .bind (.readReg hread) fun _ => .ok _) fun _ =>
    .bind (.readReg hread) fun _ => .bind (.readReg hread) fun _ => .bind (.readReg hread) fun _ =>
      .bind (.checkFont hfont) fun _ => .ok _

/-- A run of cells that end inside the extent is refused as V7 alone. -/
theorem checkCells (hchar : P 7) {r : TextRegs} {y : Nat} {cells : List Cell}
    (hfits : ∀ cell ∈ cells, checkRange r.orient (glyphWindow r cell.2 y) = .ok ()) (k : Nat) :
    ReportsOnly P (checkCells r y cells k) := by
  induction cells generalizing k with
  | nil => exact .ok _
  | cons cell cells ih =>
    obtain ⟨hrange, hrest⟩ := List.forall_mem_cons.1 hfits
    rw [Machine.checkCells, hrange, bind_ok]
    exact .bind (.require hchar) fun _ => ih hrest (k + 1)

end ReportsOnly

/-! ## The string operations draw inside the extent (R157, R160, R161) -/

/-- The run and its padding both stop before a glyph would exceed the width. -/
theorem stringCells_fit {r : TextRegs} {pad : Bool} {cs : List Byte} {x : Nat} {cell : Cell}
    (h : cell ∈ stringCells r pad cs x) : cell.2 + r.font.gw.toNat ≤ logicalW r.orient := by
  cases pad with
  | false => exact (drawRun_mem h).2
  | true =>
    obtain hrun | hpad := List.mem_append.1 h
    · exact (drawRun_mem hrun).2
    · exact (padRun_fits hpad).2

/-- No cell of a string operation violates V2: a string whose glyphs would exceed the height draws none. -/
theorem checkRange_drawnCells {r : TextRegs} {pad : Bool} {cs : List Byte} {x y : Nat} :
    ∀ cell ∈ drawnCells r pad cs x y, checkRange r.orient (glyphWindow r cell.2 y) = .ok () := by
  intro cell hcell
  by_cases hy : y + r.font.gh.toNat ≤ logicalH r.orient
  · rw [drawnCells_of_fits hy] at hcell
    exact checkRange_glyphWindow.2 ⟨stringCells_fit hcell, hy⟩
  · rw [drawnCells_of_tooTall (Nat.lt_of_not_le hy)] at hcell
    exact absurd hcell List.not_mem_nil

/-- Behind its reads a string operation is refused as V7, V8 or V9 alone. -/
theorem putStringAt_reportsOnly {P : Nat → Prop} (hchar : P 7) (hgeometry : P 8) (hstream : P 9) {r : TextRegs}
    {pad : Bool} {x y len : Nat} {s : State} : ReportsOnly P (putStringAt r pad x y len s) :=
  .bind (.checkCells hchar checkRange_drawnCells 0) fun _ => .bind (.require hgeometry) fun _ =>
    .bind (.require hstream) fun _ => .ok _

/-! ## The classes an operation is refused as (R213) -/

/-- A violation the operation adds to the mark of `s` is of a class in `P`. -/
def RefusedOnlyAs (P : Nat → Prop) (s : State) (r : Result) : Prop :=
  ∀ t v, r = .next t → t.refusals = s.refusals ++ [v] → P (violationClass v)

/-- The effect adds nothing to the mark, so what is added is what the checks report. -/
theorem RefusedOnlyAs.perform {P : Nat → Prop} {s : State} {r : Except Violation State}
    (heffect : EffectKeepsHistory s r) (hchecks : ReportsOnly P r) : RefusedOnlyAs P s (s.perform r) := by
  intro t v hnext hmark
  obtain hok | ⟨w, herror, rfl⟩ := perform_eq_next.1 hnext
  · rw [(heffect t hok).refusals] at hmark
    simp at hmark
  · obtain rfl : w = v := by simpa using hmark
    exact hchecks w herror

/-- An operation of R213's list has its effect in every state. -/
theorem exec_totalOp {i : Instr} (htotal : isTotalOp i = true) (s : State) :
    ∃ t, exec i s = .next t ∧ KeepsHistory s t := by
  have h : KeepsHistory s s := .refl s
  cases i with
  | setTextColors => exact ⟨_, rfl, h.writeTextColors⟩
  | gammaSet | teOn => exact ⟨_, rfl, h.wireCmd⟩
  | teOff | sleepIn | displayOn | displayOff | idleOn | idleOff | inversionOn | inversionOff | normalMode =>
    exact ⟨_, rfl, h.busCmd⟩
  | sleepOut => exact ⟨_, rfl, h.sleepOut⟩
  | init => exact ⟨_, rfl, h.controllerReset.sleepOut.busCmd.busCmd.busCmd.delay.busCmd.respond⟩
  | _ => exact absurd htotal Bool.false_ne_true

/-- The one check of an extent query is its read of ORIENT. -/
theorem exec_extentQuery_refusedOnlyAs {i : Instr} (hi : i = .getWidth ∨ i = .getHeight) (s : State) :
    RefusedOnlyAs (· = 12) s (exec i s) := by
  obtain rfl | rfl := hi
  all_goals
    exact .perform (.bind fun _ => .ok (KeepsHistory.refl s).respond)
      (.bind (.readReg (P := (· = 12)) rfl) fun _ => .ok _)

/-- The checks of a string operation on registers, characters, header and stream are none of them V2. -/
theorem exec_stringOp_refusedOnlyAs {i : Instr} (hstring : isStringOp i = true) (s : State) :
    RefusedOnlyAs (· ≠ 2) s (exec i s) := by
  cases i with
  | putString | putStringClearToEol | putStringCentered =>
    exact .perform (.bind fun _ => putStringAt_keepsHistory)
      (.bind (.readTextRegs (by decide) (by decide)) fun _ =>
        putStringAt_reportsOnly (by decide) (by decide) (by decide))
  | _ => exact absurd hstring Bool.false_ne_true

/-- Settles O58: a total operation has no check, an extent query has one read, and a string operation draws no cell
outside the extent. -/
theorem totalOperationsAreNeverRefused : Obligations.TotalOperationsAreNeverRefused := by
  intro i s t hexec
  refine ⟨fun htotal => ?total, fun hquery v => ?query, fun hstring v => ?string⟩
  case total =>
    obtain ⟨u, hu, hkeeps⟩ := exec_totalOp htotal s
    obtain rfl : t = u := by simpa [hexec] using hu
    exact hkeeps.refusals
  case query => exact exec_extentQuery_refusedOnlyAs hquery s t v hexec
  case string => exact exec_stringOp_refusedOnlyAs hstring s t v hexec

end Sys2Proof.Proofs
end

section
/-! PROOFS. 70_reset_and_hazards.md: the state after reset and the wait for a request. The register file at reset is
said once (`registers_reset`), and a step that waits is one of the two ways of `step_eq_next`. -/

namespace Sys2Proof.Proofs

open Sys2Proof.Machine

/-! ## The state after reset (R240) -/

/-- No register holds a value after reset (R20, D2). -/
theorem registers_reset :
    registers State.reset = ⟨.unwritten, .unwritten, .unwritten, .unwritten, .unwritten⟩ := rfl

@[simp] theorem reset_out : State.reset.out = [] := rfl
@[simp] theorem reset_responses : State.reset.responses = [] := rfl

/-- Settles O8: the five registers are those of `registers_reset`, and each of the five lists is empty. -/
theorem resetLeavesEverythingUnwritten : Obligations.ResetLeavesEverythingUnwritten := by
  obtain ⟨hcmode, horient, hfsize, hfg, hbg⟩ := Registers.mk.inj registers_reset
  exact ⟨hcmode, horient, hfsize, hfg, hbg, State.reset_trace, reset_out, reset_responses,
    State.reset_requests, State.reset_refusals⟩

/-- Settles O51: an unwritten FSIZE need not name a font, and FG and BG are unwritten together (R17, R20). -/
theorem resetMeetsTheRegisterInvariant : Obligations.ResetMeetsTheRegisterInvariant := by
  have hfsize : fsizeLegal State.reset.par .unwritten := trivial
  have hcolours : textColoursPaired .unwritten .unwritten := trivial
  exact inv_of_registers rfl registers_reset hfsize hcolours

/-! ## The wait for a request (R241) -/

/-- Settles O7: with no request on the list a step takes the first of its two ways, and waits. -/
theorem stepWithoutRequestWaits : Obligations.StepWithoutRequestWaits := by
  intro s hreq
  exact step_eq_next.2 (.inl ⟨hreq, rfl⟩)

end Sys2Proof.Proofs
end
